-- ==== Sys2Proof/Word.lean ====
section
/-! DEFINITION. The words of the block: bytes (DATA_W = 8, 00_scope R7) and the 10-bit device address
(ADDR_W = 10). Bit 0 is the least significant bit and every value is unsigned (00_scope R8). -/

namespace Sys2Proof

/-- An 8-bit value: DATA register, buffer element, CSR word, status code (00_scope R7, DATA_W). -/
abbrev Byte := BitVec 8

/-- A device address, 0 to 1023 (00_scope R7, ADDR_W; decision D3). -/
abbrev DevAddr := BitVec 10

end Sys2Proof
end

