-- ==== Sys2Proof/Config.lean ====
section
/-! DEFINITION. The parameters of 00_scope R7, the flag values the source fixes, and the free values.
What R7 calls OPEN is an opaque constant here: nothing can be proved of its value. -/

namespace Sys2Proof

/-! Flags of the CSR write view (10_state R32, 30_encoding R93). -/

def csrIrqEnable : Byte := 0x80
def csrRestart   : Byte := 0x10
def csrMaster    : Byte := 0x08
def csrRead      : Byte := 0x04
def csrStart     : Byte := 0x02
def csrSyncReset : Byte := 0x01

/-! Flags of the CSR read view (10_state R31, R33, 30_encoding R94). -/

def masterIdle      : Byte := 0x80
def masterNoAck     : Byte := 0x40
def masterDataReady : Byte := 0x20
def masterDataReq   : Byte := 0x10

/-- The two candidates of the open parameter CSR_STOP (30_encoding R102, 92 D5): the write bits
0x40 and 0x20, the only two without a name. Log 10. -/
inductive StopFlag where
  | bit6
  | bit5
  deriving DecidableEq, Repr

/-- The value of CSR_STOP (92 D5: `CSR_STOP = 0x40 ∨ CSR_STOP = 0x20`). -/
def StopFlag.mask : StopFlag → Byte
  | .bit6 => 0x40
  | .bit5 => 0x20

/-- The write bits the ENGINE may set: all but the bit without a name that is not CSR_STOP, which it
writes as 0 (30_encoding R116, 93 U3). -/
def StopFlag.named : StopFlag → Byte
  | .bit6 => 0xDF
  | .bit5 => 0xBF

/-- The parameters of the block (00_scope R7). They are carried by State in a field that no step
writes, so that a statement about every state is a statement about every choice of them (log 9).
The six command words are whole words, each replaceable (92 D6), with the defaults of 30_encoding
R100. -/
structure Config where
  /-- CSR_STOP, open (R102). -/
  stop : StopFlag
  /-- CW_RESET, default SYNC_RESET and MASTER (R100). -/
  cwReset : Byte := 0x09
  /-- CW_START_W, default START and MASTER (R100). -/
  cwStartW : Byte := 0x0A
  /-- CW_STOP_W, default STOP and MASTER (R100). -/
  cwStopW : Byte := 0x08 ||| stop.mask
  /-- CW_PIVOT, default RESTART, STOP, READ and MASTER (R100). -/
  cwPivot : Byte := 0x1C ||| stop.mask
  /-- CW_START_R, default START, READ and MASTER (R100). -/
  cwStartR : Byte := 0x0E
  /-- CW_STOP_R, default STOP, READ and MASTER (R100). -/
  cwStopR : Byte := 0x0C ||| stop.mask
  /-- LEN_W, the width of LEN and IDX, open with default 8 (92 D4). -/
  lenW : Nat := 8
  /-- T_SETUP, the argument of the delay after a register write, open (92 D9). -/
  tSetup : Nat
  /-- T_POLL, the argument of the delay after a poll, open (92 D9). -/
  tPoll : Nat
  /-- CSR_ADDR, open; no rule depends on it (20_memory R61, 92 D18). -/
  csrAddr : Nat
  /-- DATA_ADDR, open, distinct from CSR_ADDR; no rule depends on it (20_memory R61). -/
  dataAddr : Nat
  /-- SLAVE_IRQ_INDEX, the fixed interrupt index of the slave callback, open (92 D35). -/
  slaveIrqIndex : Nat
  /-- P_FINAL_WAIT_ABORTS, default false (92 D11). -/
  finalWaitAborts : Bool := false
  /-- P_LAST_STOP_BEFORE_POLL, default false (92 D12). -/
  lastStopBeforePoll : Bool := false
  /-- Whether REGISTER_SLAVE is executed. By default it is refused, as 44 R232 and 92 D22 say of a model.
  The switch is the model's, log 13. -/
  slaveExecuted : Bool := false
  deriving DecidableEq, Repr

/-- A register write of the slave path that is no command word (44 R231). Log 14. -/
inductive RegWrite where
  | csr (w : Byte)
  | data (b : Byte)
  deriving DecidableEq, Repr

/-! Free values. -/

/-- Which of the two candidates CSR_STOP is (R102). -/
opaque Config.openStopIsBit6 : Bool
/-- T_SETUP (R7). -/
opaque Config.openTSetup : Nat
/-- T_POLL (R7). -/
opaque Config.openTPoll : Nat
/-- CSR_ADDR (R7). -/
opaque Config.openCsrAddr : Nat
/-- DATA_ADDR (R7), before it is kept apart from CSR_ADDR. -/
opaque Config.openDataAddr : Nat
/-- SLAVE_IRQ_INDEX (R7). -/
opaque Config.openSlaveIrqIndex : Nat

/-- Bits 7 to 4 of the slave path's first word, in REGISTER_SLAVE number n with response address a (R103,
44 R234). They may differ from call to call. Log 13. -/
opaque Config.slaveResetHi : Nat → DevAddr → BitVec 4
/-- Bits 2 and 1 of the slave path's first word (R103, 44 R234). Log 13. -/
opaque Config.slaveResetLo : Nat → DevAddr → BitVec 2
/-- Bits 6 to 4 of the slave path's second word (R103, 44 R234). Log 13. -/
opaque Config.slaveEnableHi : Nat → DevAddr → BitVec 3
/-- Bits 2 to 0 of the slave path's second word (R103, 44 R234). Log 13. -/
opaque Config.slaveEnableLo : Nat → DevAddr → BitVec 3
/-- The register writes that convey the response address before the first word, if any (44 R231, R234:
the path of the address is not specified). Log 14. -/
opaque Config.slaveBefore : Nat → DevAddr → List RegWrite
/-- The register writes that convey the response address after the first word, if any. Log 14. -/
opaque Config.slaveAfter : Nat → DevAddr → List RegWrite

/-- What the PERIPHERAL answers to CSR read number n when no answer is listed (20_memory R66):
any value, of which nothing is known. Log 6. -/
opaque Config.csrFree : Nat → Byte
/-- What the PERIPHERAL answers to DATA read number n when no answer is listed (20_memory R68). Log 6. -/
opaque Config.dataFree : Nat → Byte
/-- Byte i of the HOST's buffer number b where the HOST gave no value for it (10_state R41: the
buffer's contents are unspecified). Log 8. -/
opaque Config.bufFree : Nat → Nat → Byte

/-- The parameters of the machine at reset: the decided defaults of R7, and open constants for what
R7 leaves open. -/
def Config.device : Config where
  stop := if Config.openStopIsBit6 then .bit6 else .bit5
  tSetup := Config.openTSetup
  tPoll := Config.openTPoll
  csrAddr := Config.openCsrAddr
  dataAddr := if Config.openDataAddr = Config.openCsrAddr then Config.openCsrAddr + 1
    else Config.openDataAddr
  slaveIrqIndex := Config.openSlaveIrqIndex

end Sys2Proof
end

