-- ==== Sys2Proof/Machine/State.lean ====
section
/-! DEFINITION. The state of a run (10_state R20, R21, R24): the ENGINE's registers, the global
interrupt flag, the transfer buffer, what the PERIPHERAL was handed and will answer, and the HOST's
calls. Plain data. State.reset is the state after block reset (10_state R41, 70 R280). -/

namespace Sys2Proof.Machine

/-- The values of SEQ, the block's program counter (10_state R24). -/
inductive Seq where
  | sIdle
  | tIrqOff | tReset
  | apSel | ap10Hdr | ap10Start | ap10Wait | ap10Low | ap7Addr | ap7Start
  | wInit | wTest | wWait | wLoad | wByte | wInc | wFwait | wStop | wIdle
  | rWait1 | rSub | rWait2 | rReaddr | rPivot | rPidle | rStart | rWait3
  | rInit | rTest | rPoll | rLstop | rCheck | rFetch | rStore | rDummy | rInc | rIdle
  | tOk | tAbort
  | slPass
  deriving DecidableEq, Repr

/-- The values of PSEQ, the sub-sequencer of the wait primitive (10_state R24). -/
inductive PSeq where
  | pRead
  | pDly
  | pTest
  deriving DecidableEq, Repr

/-- An action of SL_PASS (44 R231): the two command words, the attach, and the register writes that convey
the response address. Log 14, log 24. -/
inductive SlAction where
  | convey (w : RegWrite)
  | reset
  | attach
  | enable
  deriving DecidableEq, Repr

/-- The register that holds the status T_ABORT carries (60 R246: "which is R or T and stays in that
register"). Log 16. -/
inductive AbortSrc where
  | r
  | t
  deriving DecidableEq, Repr

/-- The modes of the wait primitive (30_encoding R99). -/
inductive WMode where
  | req
  | any
  | rdy
  | idle
  deriving DecidableEq, Repr

/-- An external action (00_scope R6), in the notation of 95_test_vectors section 0. -/
inductive Action where
  | ieWrite (b : Bool)
  | csrWrite (w : Byte)
  | dataWrite (b : Byte)
  | csrRead (b : Byte)
  | dataRead (b : Byte)
  | bufRead (i : Nat) (b : Byte)
  | bufWrite (i : Nat) (b : Byte)
  | delay (n : Nat)
  /-- The attach of the slave path (44 R231): interrupt index and callback. -/
  | attach (index callback : Nat)
  deriving DecidableEq, Repr

/-- Bytes by index: addresses strictly rising; an index that is not listed holds no value the HOST
gave (log 8). -/
abbrev Memory := List Host.Cell

/-- A transfer buffer of the HOST (10_state R37): which buffer it is (the handle of 30_encoding R91),
how many bytes it has, and the bytes whose value is known. -/
structure Buffer where
  id : Nat
  size : Nat
  bytes : Memory
  deriving DecidableEq, Repr

/-- The handles a command carries beside its bits (30_encoding R91). -/
structure Offer where
  buffer : Buffer
  callback : Nat
  deriving DecidableEq, Repr

/-- One call of the HOST: the bits of F-CMD and the handles (30_encoding R91). -/
structure HostCall where
  word : Nat
  offer : Offer
  /-- The platform resets the block before this call, the ENGINE being idle (70 R281). Log 26. -/
  reset : Bool := false
  deriving DecidableEq, Repr

/-- The state of a run. -/
structure State where
  /-- The parameters (00_scope R7); no step writes them. Log 9. -/
  cfg : Config
  /-- SEQ (R24). -/
  seq : Seq
  /-- PSEQ (R24). -/
  pseq : PSeq
  /-- The state's register write is done, its Delay(T_SETUP) step is next (20_memory R73). Log 4. -/
  setup : Bool
  /-- BUSY (R27). -/
  busy : Bool
  /-- OP (R21). -/
  op : BitVec 2
  /-- ADDR (R21). -/
  addr : DevAddr
  /-- SUBADDR (R21). -/
  subaddr : Byte
  /-- LEN, of LEN_W bits (R21). Log 12. -/
  len : Nat
  /-- IDX, of LEN_W bits (R21). Log 12. -/
  idx : Nat
  /-- T, the last CSR snapshot (R29). -/
  t : Byte
  /-- R, the result of the last classified wait (R29). -/
  r : Byte
  /-- V, the byte in flight (R21). -/
  v : Byte
  /-- RET, the status code (R28). -/
  ret : Byte
  /-- Which of R and T the abort carries (60 R246). Log 16. -/
  abortSrc : AbortSrc
  /-- IE, the HOST's global interrupt flag (R30). -/
  ie : Bool
  /-- CSR write view: the last command word handed over (R32). -/
  csrWrite : Byte
  /-- DATA write view: the last byte handed over (R35). -/
  dataWrite : Byte
  /-- BUF, the transfer buffer (R37). -/
  buf : Buffer
  /-- CSR read view: the PERIPHERAL's next answers (R33, 20_memory R66). Log 6. -/
  csrAnswers : List Byte
  /-- DATA read view: the PERIPHERAL's next answers (R35, 20_memory R68). Log 6. -/
  dataAnswers : List Byte
  /-- CSR reads made; the argument of the free answers. Log 6. -/
  csrReads : Nat
  /-- DATA reads made; the argument of the free answers. Log 6. -/
  dataReads : Nat
  /-- The handles on the command interface (30_encoding R91). Log 25. -/
  offer : Offer
  /-- The HOST's calls still to be made, in order (70 R288). Log 3. -/
  calls : List HostCall
  /-- REGISTER_SLAVEs executed so far; the argument of the slave path's free values. Log 13. -/
  slaveCalls : Nat
  /-- The actions of SL_PASS still to be made, the next one first (44 R231). Log 24. -/
  slActions : List SlAction
  /-- Bits 7 to 4 of the first word of the REGISTER_SLAVE in progress (30_encoding R103). Log 13. -/
  slResetHi : BitVec 4
  /-- Bits 2 and 1 of the first word. -/
  slResetLo : BitVec 2
  /-- Bits 6 to 4 of the second word. -/
  slEnableHi : BitVec 3
  /-- Bits 2 to 0 of the second word. -/
  slEnableLo : BitVec 3
  /-- The response address of the REGISTER_SLAVE in progress (44 R230): the whole address field of F-CMD.
  44 R234 leaves its width and 10-bit response addresses open; DESIGN CHOICE, log 31. -/
  slAddr : DevAddr
  /-- The callback of the REGISTER_SLAVE in progress (44 R230). -/
  slCallback : Nat
  /-- The response address the PERIPHERAL was handed last (R43), 10 bits wide by the model's choice. Log 14,
  log 31. -/
  slaveAddr : Option DevAddr
  /-- The callback attached to the interrupt vector (R43). -/
  attached : Option Nat
  /-- The external actions so far, newest first (00_scope R11). Log 20. -/
  trace : List Action
  deriving DecidableEq, Repr

/-- Why the machine stops with a fault. -/
inductive Fault where
  /-- Raised by W_LOAD and R_STORE when IDX is no index of BUF (20_memory R62: no rule makes such an
  access). Safe: the hardware would go on beyond the buffer, the model claims nothing (log 23). -/
  | bufferIndex
  deriving DecidableEq, Repr

/-- Why the machine refuses. -/
inductive Refusal where
  /-- Raised by an arm of exec whose instruction has no meaning yet; none is left. Safe. -/
  | notModelled (mnemonic : String)
  /-- Raised by MASTER_WRITE and MASTER_READ when the buffer has fewer than length bytes: "a model
  refuses a command whose buffer is shorter" (20_memory R62, 70 R286). Safe. -/
  | bufferShorterThanLength
  /-- Raised by the step when the HOST's word has more bits than F-CMD, that is a length above 2^LEN_W - 1
  (30_encoding R91, 92 D4). The refusal is the model's choice, log 22. Safe. -/
  | commandTooWide
  /-- Raised by REGISTER_SLAVE when the switch slaveExecuted is off, its default: "A model of the block
  refuses REGISTER_SLAVE by name" (44 R232, 92 D22, 93 U8). Safe. -/
  | registerSlave
  deriving DecidableEq, Repr

/-- A buffer of no bytes. -/
def Buffer.empty : Buffer := { id := 0, size := 0, bytes := [] }

/-- The machine as a run begins, after block reset (10_state R41, 70 R280): SEQ = S_IDLE, PSEQ = P_READ, BUSY =
0. Every other register has no value in the spec; the model's choice for it is log 7. A block reset of a
given state is State.blockReset (Ops.lean). -/
def State.reset : State where
  cfg := Config.device
  seq := .sIdle
  pseq := .pRead
  setup := false
  busy := false
  op := 0
  addr := 0
  subaddr := 0
  len := 0
  idx := 0
  t := 0
  r := 0
  v := 0
  ret := 0
  abortSrc := .t
  ie := false
  csrWrite := 0
  dataWrite := 0
  buf := Buffer.empty
  csrAnswers := []
  dataAnswers := []
  csrReads := 0
  dataReads := 0
  offer := { buffer := Buffer.empty, callback := 0 }
  calls := []
  slaveCalls := 0
  slActions := []
  slResetHi := 0
  slResetLo := 0
  slEnableHi := 0
  slEnableLo := 0
  slAddr := 0
  slCallback := 0
  slaveAddr := none
  attached := none
  trace := []

end Sys2Proof.Machine
end

