-- ==== Sys2Proof/Machine/Flags.lean ====
section
/-! DEFINITION. The flag tests of the block: the poll masks and the classification of a snapshot
(30_encoding R99, 40 R130). -/

namespace Sys2Proof.Machine

/-- The poll mask of a wait mode (30_encoding R99, 40 R130). -/
def WMode.mask : WMode → Byte
  | .req => masterDataReq ||| masterIdle
  | .any => masterDataReq ||| masterIdle
  | .rdy => masterDataReady ||| masterIdle
  | .idle => masterIdle

/-- P_TEST's condition: the snapshot has a bit of the mask (40 R134). -/
def WMode.ends (m : WMode) (t : Byte) : Bool := t &&& m.mask != 0

/-- The result of a classified wait: 0 if DATA_REQ is set, the snapshot otherwise (40 R135). DATA_REQ
wins over IDLE and NO_ACK (60 R247). -/
def classify (t : Byte) : Byte := if t &&& masterDataReq != 0 then 0 else t

/-- R_CHECK's condition: IDLE or NO_ACK is set (43 R204). -/
def checkFails (t : Byte) : Bool := t &&& (masterIdle ||| masterNoAck) != 0

end Sys2Proof.Machine
end

