-- ==== Sys2Proof/Syntax.lean ====
section
/-! DEFINITION. The instructions: one constructor per row of spec/opcode_table.json, in the table's
order. Operands are the bits the row leaves open. Log 1 says where each row is issued. -/

namespace Sys2Proof

inductive Instr where
  /-- MASTER_WRITE, F-CMD with op 0b01 (42 R170). -/
  | masterWrite (address : DevAddr) (subAddress : Byte) (length : Nat)
  /-- MASTER_READ, F-CMD with op 0b10 (43 R190). -/
  | masterRead (address : DevAddr) (subAddress : Byte) (length : Nat)
  /-- REGISTER_SLAVE, F-CMD with op 0b11 (44 R230). -/
  | registerSlave (address : DevAddr) (subAddress : Byte) (length : Nat)
  /-- NO_COMMAND, F-CMD with op 0b00, reserved (30 R115). -/
  | noCommand (address : DevAddr) (subAddress : Byte) (length : Nat)
  /-- WAIT_REQ, F-WMODE 0 (40 R135). -/
  | waitReq
  /-- WAIT_ANY, F-WMODE 1 (40 R136). -/
  | waitAny
  /-- WAIT_RDY, F-WMODE 2 (40 R137). -/
  | waitRdy
  /-- WAIT_IDLE, F-WMODE 3 (40 R138). -/
  | waitIdle
  /-- CW_RESET, F-CSRW (30 R100, 41 R151). -/
  | cwReset
  /-- CW_START_W, F-CSRW (30 R100, 41 R154, R158). -/
  | cwStartW
  /-- CW_STOP_W, F-CSRW with CSR_STOP (30 R100, 42 R178). -/
  | cwStopW (stop : StopFlag)
  /-- CW_PIVOT, F-CSRW with CSR_STOP (30 R100, 43 R196). -/
  | cwPivot (stop : StopFlag)
  /-- CW_START_R, F-CSRW (30 R100, 43 R198). -/
  | cwStartR
  /-- CW_STOP_R, F-CSRW with CSR_STOP (30 R100, 43 R203). -/
  | cwStopR (stop : StopFlag)
  /-- CW_SLAVE_RESET, F-CSRW `hhhh0ll1` (30 R103, 44 R231). -/
  | cwSlaveReset (hi : BitVec 4) (lo : BitVec 2)
  /-- CW_SLAVE_ENABLE, F-CSRW `1hhh0lll` (30 R103, 44 R231). -/
  | cwSlaveEnable (hi : BitVec 3) (lo : BitVec 3)
  /-- HDR10_W, F-HDR10 write form (30 R96, R105). -/
  | hdr10W (h : BitVec 2)
  /-- HDR10_R, F-HDR10 read form (30 R96, R106). -/
  | hdr10R (h : BitVec 2)
  /-- ADDR7_W, F-ADDR7 write form (30 R97, R107). -/
  | addr7W (a : BitVec 7)
  /-- ADDR7_R, F-ADDR7 read form (30 R97, R108). -/
  | addr7R (a : BitVec 7)
  /-- SUBADDR_BYTE, F-BYTE (30 R98, R110, 43 R192). -/
  | subaddrByte (b : Byte)
  /-- WDATA_BYTE, F-BYTE (30 R98, R110, 42 R175). -/
  | wdataByte (b : Byte)
  /-- DUMMY_BYTE, F-BYTE, all zeros (30 R111, 43 R207). -/
  | dummyByte
  /-- ST_REQ_SPIN `0nr0llll` (30 R112). -/
  | stReqSpin (noAck ready : Bool) (low : BitVec 4)
  /-- ST_REQ_PROCEED `inr1llll` (30 R112). -/
  | stReqProceed (idle noAck ready : Bool) (low : BitVec 4)
  /-- ST_REQ_TERMINAL `1nr0llll` (30 R112). -/
  | stReqTerminal (noAck ready : Bool) (low : BitVec 4)
  /-- ST_RDY_SPIN `0n0qllll` (30 R113). -/
  | stRdySpin (noAck req : Bool) (low : BitVec 4)
  /-- ST_RDY_ACCEPT `001qllll` (30 R113). -/
  | stRdyAccept (req : Bool) (low : BitVec 4)
  /-- ST_RDY_ABORT_IDLE `1nrqllll` (30 R113). -/
  | stRdyAbortIdle (noAck ready req : Bool) (low : BitVec 4)
  /-- ST_RDY_ABORT_NACK `011qllll` (30 R113). -/
  | stRdyAbortNack (req : Bool) (low : BitVec 4)
  /-- ST_IDLE_SPIN `0nrqllll` (40 R138). -/
  | stIdleSpin (noAck ready req : Bool) (low : BitVec 4)
  /-- ST_IDLE_END `1nrqllll` (40 R138). -/
  | stIdleEnd (noAck ready req : Bool) (low : BitVec 4)
  deriving DecidableEq, Repr

end Sys2Proof
end

