-- ==== Sys2Proof/WellFormed.lean ====
section
/-! DEFINITION. Which instructions a word can carry: the length of a command has LEN_W bits
(30_encoding R91); every other operand fits by its type. -/

namespace Sys2Proof

/-- The length operand is in 0 to 2^LEN_W - 1 (30_encoding R91). -/
def Instr.WellFormed (lenW : Nat) : Instr → Bool
  | .masterWrite _ _ n => decide (n < 2 ^ lenW)
  | .masterRead _ _ n => decide (n < 2 ^ lenW)
  | .registerSlave _ _ n => decide (n < 2 ^ lenW)
  | .noCommand _ _ n => decide (n < 2 ^ lenW)
  | .waitReq => true
  | .waitAny => true
  | .waitRdy => true
  | .waitIdle => true
  | .cwReset => true
  | .cwStartW => true
  | .cwStopW _ => true
  | .cwPivot _ => true
  | .cwStartR => true
  | .cwStopR _ => true
  | .cwSlaveReset _ _ => true
  | .cwSlaveEnable _ _ => true
  | .hdr10W _ => true
  | .hdr10R _ => true
  | .addr7W _ => true
  | .addr7R _ => true
  | .subaddrByte _ => true
  | .wdataByte _ => true
  | .dummyByte => true
  | .stReqSpin _ _ _ => true
  | .stReqProceed _ _ _ _ => true
  | .stReqTerminal _ _ _ => true
  | .stRdySpin _ _ _ => true
  | .stRdyAccept _ _ => true
  | .stRdyAbortIdle _ _ _ _ => true
  | .stRdyAbortNack _ _ => true
  | .stIdleSpin _ _ _ _ => true
  | .stIdleEnd _ _ _ _ => true

end Sys2Proof
end

