-- ==== Sys2Proof/Decode.lean ====
section
/-! DEFINITION. From words to instructions and back (30_encoding). One value means different things
in different places (R95, R98), so the decoder is told the place, its Slot. Total on every number;
what no row of the place matches is rejected by name. -/

namespace Sys2Proof

/-- The place a word stands in: its format (30_encoding R90) and, where one format serves several
rows, the position in the sequence or the wait that reads it. -/
inductive Slot where
  /-- F-CMD, presented by the HOST (R91). -/
  | cmd
  /-- F-WMODE (R99). -/
  | wmode
  /-- F-CSRW, written by a master transaction (R100). -/
  | csrMaster
  /-- F-CSRW, the first word of the slave path (R103). -/
  | csrSlaveReset
  /-- F-CSRW, the second word of the slave path (R103). -/
  | csrSlaveEnable
  /-- F-HDR10 (R96). -/
  | hdr10
  /-- F-ADDR7 (R97). -/
  | addr7
  /-- F-BYTE as the register address of a read (R98, R110). -/
  | subaddr
  /-- F-BYTE as a data byte of a write (R98, R110). -/
  | wdata
  /-- F-BYTE as the dummy byte of a read (R111). -/
  | dummy
  /-- F-CSRR read by WAIT_REQ or WAIT_ANY (R112). -/
  | statusReq
  /-- F-CSRR read by WAIT_RDY and by R_CHECK (R113). -/
  | statusRdy
  /-- F-CSRR read by WAIT_IDLE (40 R138). -/
  | statusIdle
  deriving DecidableEq, Repr

/-- The number of bits of a word in each place (R90). -/
def Slot.width (lenW : Nat) : Slot → Nat
  | .cmd => 20 + lenW
  | .wmode => 2
  | .csrMaster => 8
  | .csrSlaveReset => 8
  | .csrSlaveEnable => 8
  | .hdr10 => 8
  | .addr7 => 8
  | .subaddr => 8
  | .wdata => 8
  | .dummy => 8
  | .statusReq => 8
  | .statusRdy => 8
  | .statusIdle => 8

/-- Why a word is no instruction of its place. -/
inductive DecodeError where
  /-- The number has more bits than the place's format (R90). -/
  | tooWide
  /-- No master command word: none of the six of R100. -/
  | notMasterWord
  /-- A STOP word with neither candidate of CSR_STOP set, or with both (R102). -/
  | notOneStopFlag
  /-- The slave path's first word has SYNC_RESET set and MASTER clear (R103). -/
  | notSlaveReset
  /-- The slave path's second word has IRQ_ENABLE set and MASTER clear (R103). -/
  | notSlaveEnable
  /-- Bits 7 to 3 are not the header pattern 11110 (R96). -/
  | notHeader
  /-- The dummy byte is 0x00 (R111). -/
  | notDummy
  deriving DecidableEq, Repr

/-! The bytes, field by field. -/

/-- F-HDR10: `11110`, ADDR[9:8], the direction bit (R96). -/
def headerByte (h : BitVec 2) (rw : Bool) : Byte := 0b11110#5 ++ h ++ BitVec.ofBool rw

/-- F-ADDR7: ADDR[6:0], the direction bit (R97). -/
def addressByte (a : BitVec 7) (rw : Bool) : Byte := a ++ BitVec.ofBool rw

/-- F-CSRR: IDLE, NO_ACK, DATA_READY, DATA_REQ, the unnamed nibble (R94). -/
def statusByte (idle noAck ready req : Bool) (low : BitVec 4) : Byte :=
  BitVec.ofBool idle ++ BitVec.ofBool noAck ++ BitVec.ofBool ready ++ BitVec.ofBool req ++ low

/-- `hhhh0ll1` (R103). -/
def slaveResetByte (hi : BitVec 4) (lo : BitVec 2) : Byte := hi ++ 0#1 ++ lo ++ 1#1

/-- `1hhh0lll` (R103). -/
def slaveEnableByte (hi lo : BitVec 3) : Byte := 1#1 ++ hi ++ 0#1 ++ lo

/-! The decoder. -/

/-- F-CMD: op [1:0], address [11:2], subAddress [19:12], length [19+LEN_W:20] (R91, R92). -/
def decodeCommand (lenW w : Nat) : Except DecodeError Instr :=
  if w < 2 ^ (20 + lenW) then
    let a : DevAddr := BitVec.ofNat 10 (w / 2 ^ 2)
    let s : Byte := BitVec.ofNat 8 (w / 2 ^ 12)
    let n := w / 2 ^ 20
    if w % 4 = 1 then .ok (.masterWrite a s n)
    else if w % 4 = 2 then .ok (.masterRead a s n)
    else if w % 4 = 3 then .ok (.registerSlave a s n)
    else .ok (.noCommand a s n)
  else .error .tooWide

/-- F-WMODE (R99). -/
def decodeMode (w : Nat) : Except DecodeError Instr :=
  if w = 0 then .ok .waitReq
  else if w = 1 then .ok .waitAny
  else if w = 2 then .ok .waitRdy
  else if w = 3 then .ok .waitIdle
  else .error .tooWide

/-- Which candidate of CSR_STOP a word has set, if exactly one (R102). -/
def stopFlagOf (w : Byte) : Except DecodeError StopFlag :=
  if w &&& 0x60 = StopFlag.bit6.mask then .ok .bit6
  else if w &&& 0x60 = StopFlag.bit5.mask then .ok .bit5
  else .error .notOneStopFlag

/-- F-CSRW, the six words of the master paths (R100). -/
def decodeMasterWord (w : Byte) : Except DecodeError Instr :=
  if w = 0x09 then .ok .cwReset
  else if w = 0x0A then .ok .cwStartW
  else if w = 0x0E then .ok .cwStartR
  else if w &&& 0x9F = 0x08 then (stopFlagOf w).map Instr.cwStopW
  else if w &&& 0x9F = 0x1C then (stopFlagOf w).map Instr.cwPivot
  else if w &&& 0x9F = 0x0C then (stopFlagOf w).map Instr.cwStopR
  else .error .notMasterWord

/-- F-CSRW, the slave path's first word (R103). -/
def decodeSlaveReset (w : Byte) : Except DecodeError Instr :=
  if w &&& 0x09 = 0x01 then .ok (.cwSlaveReset (w.extractLsb' 4 4) (w.extractLsb' 1 2))
  else .error .notSlaveReset

/-- F-CSRW, the slave path's second word (R103). -/
def decodeSlaveEnable (w : Byte) : Except DecodeError Instr :=
  if w &&& 0x88 = 0x80 then .ok (.cwSlaveEnable (w.extractLsb' 4 3) (w.extractLsb' 0 3))
  else .error .notSlaveEnable

/-- F-HDR10 (R96). -/
def decodeHeader (w : Byte) : Except DecodeError Instr :=
  if w &&& 0xF8 = 0xF0 then
    if w.getLsbD 0 then .ok (.hdr10R (w.extractLsb' 1 2)) else .ok (.hdr10W (w.extractLsb' 1 2))
  else .error .notHeader

/-- F-ADDR7 (R97). -/
def decodeAddress (w : Byte) : Except DecodeError Instr :=
  if w.getLsbD 0 then .ok (.addr7R (w.extractLsb' 1 7)) else .ok (.addr7W (w.extractLsb' 1 7))

/-- F-BYTE as the dummy byte (R111). -/
def decodeDummy (w : Byte) : Except DecodeError Instr :=
  if w = 0 then .ok .dummyByte else .error .notDummy

/-- A snapshot under poll mask 0x90: one of three classes (R112). -/
def classifyReq (w : Byte) : Instr :=
  let low := w.extractLsb' 0 4
  if w.getLsbD 4 then .stReqProceed (w.getLsbD 7) (w.getLsbD 6) (w.getLsbD 5) low
  else if w.getLsbD 7 then .stReqTerminal (w.getLsbD 6) (w.getLsbD 5) low
  else .stReqSpin (w.getLsbD 6) (w.getLsbD 5) low

/-- A snapshot under poll mask 0xA0 and check mask 0xC0: SPIN, ACCEPT or ABORT (R113). -/
def classifyRdy (w : Byte) : Instr :=
  let low := w.extractLsb' 0 4
  if w.getLsbD 7 then .stRdyAbortIdle (w.getLsbD 6) (w.getLsbD 5) (w.getLsbD 4) low
  else if w.getLsbD 5 then
    if w.getLsbD 6 then .stRdyAbortNack (w.getLsbD 4) low else .stRdyAccept (w.getLsbD 4) low
  else .stRdySpin (w.getLsbD 6) (w.getLsbD 4) low

/-- A snapshot under poll mask 0x80 (40 R138). -/
def classifyIdle (w : Byte) : Instr :=
  let low := w.extractLsb' 0 4
  if w.getLsbD 7 then .stIdleEnd (w.getLsbD 6) (w.getLsbD 5) (w.getLsbD 4) low
  else .stIdleSpin (w.getLsbD 6) (w.getLsbD 5) (w.getLsbD 4) low

/-- A byte in a place, less the two places that are not one byte wide. -/
def decodeByte (w : Byte) : Slot → Except DecodeError Instr
  | .cmd => .error .tooWide
  | .wmode => .error .tooWide
  | .csrMaster => decodeMasterWord w
  | .csrSlaveReset => decodeSlaveReset w
  | .csrSlaveEnable => decodeSlaveEnable w
  | .hdr10 => decodeHeader w
  | .addr7 => decodeAddress w
  | .subaddr => .ok (.subaddrByte w)
  | .wdata => .ok (.wdataByte w)
  | .dummy => decodeDummy w
  | .statusReq => .ok (classifyReq w)
  | .statusRdy => .ok (classifyRdy w)
  | .statusIdle => .ok (classifyIdle w)

/-- The decoder: the word w, standing in place k, with LEN_W as given. -/
def decode (lenW : Nat) (k : Slot) (w : Nat) : Except DecodeError Instr :=
  if k = .cmd then decodeCommand lenW w
  else if k = .wmode then decodeMode w
  else if w < 2 ^ 8 then decodeByte (BitVec.ofNat 8 w) k
  else .error .tooWide

/-! The encoder. -/

/-- The place an instruction's word stands in. -/
def Instr.slot : Instr → Slot
  | .masterWrite _ _ _ => .cmd
  | .masterRead _ _ _ => .cmd
  | .registerSlave _ _ _ => .cmd
  | .noCommand _ _ _ => .cmd
  | .waitReq => .wmode
  | .waitAny => .wmode
  | .waitRdy => .wmode
  | .waitIdle => .wmode
  | .cwReset => .csrMaster
  | .cwStartW => .csrMaster
  | .cwStopW _ => .csrMaster
  | .cwPivot _ => .csrMaster
  | .cwStartR => .csrMaster
  | .cwStopR _ => .csrMaster
  | .cwSlaveReset _ _ => .csrSlaveReset
  | .cwSlaveEnable _ _ => .csrSlaveEnable
  | .hdr10W _ => .hdr10
  | .hdr10R _ => .hdr10
  | .addr7W _ => .addr7
  | .addr7R _ => .addr7
  | .subaddrByte _ => .subaddr
  | .wdataByte _ => .wdata
  | .dummyByte => .dummy
  | .stReqSpin _ _ _ => .statusReq
  | .stReqProceed _ _ _ _ => .statusReq
  | .stReqTerminal _ _ _ => .statusReq
  | .stRdySpin _ _ _ => .statusRdy
  | .stRdyAccept _ _ => .statusRdy
  | .stRdyAbortIdle _ _ _ _ => .statusRdy
  | .stRdyAbortNack _ _ => .statusRdy
  | .stIdleSpin _ _ _ _ => .statusIdle
  | .stIdleEnd _ _ _ _ => .statusIdle

/-- F-CMD from its fields (R91). -/
def encodeCommand (op : Nat) (a : DevAddr) (s : Byte) (n : Nat) : Nat :=
  op + a.toNat * 2 ^ 2 + s.toNat * 2 ^ 12 + n * 2 ^ 20

/-- The word of an instruction, from the encodings of 30_encoding. -/
def encode : Instr → Nat
  | .masterWrite a s n => encodeCommand 1 a s n
  | .masterRead a s n => encodeCommand 2 a s n
  | .registerSlave a s n => encodeCommand 3 a s n
  | .noCommand a s n => encodeCommand 0 a s n
  | .waitReq => 0
  | .waitAny => 1
  | .waitRdy => 2
  | .waitIdle => 3
  | .cwReset => (csrSyncReset ||| csrMaster).toNat
  | .cwStartW => (csrStart ||| csrMaster).toNat
  | .cwStopW p => (p.mask ||| csrMaster).toNat
  | .cwPivot p => (csrRestart ||| p.mask ||| csrRead ||| csrMaster).toNat
  | .cwStartR => (csrStart ||| csrRead ||| csrMaster).toNat
  | .cwStopR p => (p.mask ||| csrRead ||| csrMaster).toNat
  | .cwSlaveReset hi lo => (slaveResetByte hi lo).toNat
  | .cwSlaveEnable hi lo => (slaveEnableByte hi lo).toNat
  | .hdr10W h => (headerByte h false).toNat
  | .hdr10R h => (headerByte h true).toNat
  | .addr7W a => (addressByte a false).toNat
  | .addr7R a => (addressByte a true).toNat
  | .subaddrByte b => b.toNat
  | .wdataByte b => b.toNat
  | .dummyByte => 0
  | .stReqSpin n d low => (statusByte false n d false low).toNat
  | .stReqProceed i n d low => (statusByte i n d true low).toNat
  | .stReqTerminal n d low => (statusByte true n d false low).toNat
  | .stRdySpin n q low => (statusByte false n false q low).toNat
  | .stRdyAccept q low => (statusByte false false true q low).toNat
  | .stRdyAbortIdle n d q low => (statusByte true n d q low).toNat
  | .stRdyAbortNack q low => (statusByte false true true q low).toNat
  | .stIdleSpin n d q low => (statusByte false n d q low).toNat
  | .stIdleEnd n d q low => (statusByte true n d q low).toNat

/-! The table read without a place (log 2). -/

/-- The default of LEN_W (00_scope R7, 92 D4). -/
def defaultLenW : Nat := 8

/-- The place a byte is read in when none is given: DESIGN CHOICE, log 2. A byte below 4 is a command
whose address, subAddress and length are 0; then the master words, the headers, the snapshots whose
low nibble is 0, the slave words (less those with both unnamed bits set, which the ENGINE never writes,
R116), and the address bytes. -/
def slotOfByte (w : Byte) : Slot :=
  if w < 4 then .cmd
  else if (decodeMasterWord w).isOk then .csrMaster
  else if w &&& 0xF8 = 0xF0 then .hdr10
  else if w = 0x20 ∨ w = 0x50 ∨ w = 0x60 ∨ w = 0xA0 then .statusRdy
  else if w = 0x70 ∨ w = 0xC0 ∨ w = 0xE0 then .statusIdle
  else if w &&& 0x0F = 0 then .statusReq
  else if w &&& 0x60 = 0x60 then .addr7
  else if w &&& 0x09 = 0x01 then .csrSlaveReset
  else if w &&& 0x88 = 0x80 then .csrSlaveEnable
  else .addr7

/-- The place a word of nbits bits is read in when none is given: more than one byte is a command,
the only format longer than a byte (R90). Log 2. -/
def slotOfWord (nbits w : Nat) : Slot :=
  if 8 < nbits then .cmd else slotOfByte (BitVec.ofNat 8 w)

/-- The instruction the decoder reads from a word of the opcode table, the place being chosen by
slotOfWord (log 2). -/
def decodeTableWord (nbits w : Nat) : Option Instr :=
  if w < 2 ^ nbits then (decode defaultLenW (slotOfWord nbits w) w).toOption else none

end Sys2Proof
end

