-- ==== Sys2Proof/Machine/Operands.lean ====
section
/-! DEFINITION. The operand forms: the range test of the address, the fields of the address bytes, the
address bytes as 30_encoding R104 to R108 assemble them, and the bits of a CSR word the ENGINE may set. -/

namespace Sys2Proof.Machine

/-- TEN, a wire: ADDR > 127, unsigned (10_state R22). -/
def ten (a : DevAddr) : Bool := decide (127 < a.toNat)

/-- ADDR[9:8], the header's field (30_encoding R96). -/
def addrHigh (a : DevAddr) : BitVec 2 := a.extractLsb' 8 2

/-- ADDR[6:0], the address byte's field (30_encoding R97). -/
def addrLow (a : DevAddr) : BitVec 7 := a.extractLsb' 0 7

/-- `HDR_W(ADDR) = trunc_8(((0x1E << 2) | ADDR[9:8]) << 1)` (30_encoding R105), on naturals as 00_scope
R10 computes it. -/
def hdrW (a : DevAddr) : Byte := BitVec.ofNat 8 (((0x1E <<< 2) ||| (addrHigh a).toNat) <<< 1)

/-- `HDR_R(ADDR) = HDR_W(ADDR) | 0x01` (30_encoding R106). -/
def hdrR (a : DevAddr) : Byte := hdrW a ||| 0x01

/-- `ADDR_W(ADDR) = trunc_8(ADDR[6:0] << 1)` (30_encoding R107). -/
def addrW (a : DevAddr) : Byte := BitVec.ofNat 8 ((addrLow a).toNat <<< 1)

/-- `ADDR_R(ADDR) = ADDR_W(ADDR) | 0x01` (30_encoding R108). -/
def addrR (a : DevAddr) : Byte := addrW a ||| 0x01

/-- A CSR word less the bit without a name that is not CSR_STOP (30_encoding R116, 93 U3). -/
def namedBits (p : StopFlag) (w : Byte) : Byte := w &&& p.named

/-- The same of bits 7 to 4, and of bits 6 to 4: the open high bits of the slave words (R103, R116). -/
def namedHigh (p : StopFlag) (hi : BitVec 4) : BitVec 4 := hi &&& p.named.extractLsb' 4 4

def namedMid (p : StopFlag) (hi : BitVec 3) : BitVec 3 := hi &&& p.named.extractLsb' 4 3

/-- The actions of SL_PASS in order (44 R231): the word that resets into slave mode, the response address
being conveyed before or after it, then the attach, then the word that enables. -/
def slavePlan (before after : List RegWrite) : List SlAction :=
  before.map SlAction.convey ++ .reset :: (after.map SlAction.convey ++ [.attach, .enable])

end Sys2Proof.Machine
end

