-- ==== Sys2Proof/Machine/Ops.lean ====
section
/-! DEFINITION. The named operations: the buffer's bytes, the access primitives of 20_memory R66 to R72,
the successors of SEQ, and the abort (60 R246). Every access of a step goes through these. -/

namespace Sys2Proof.Machine

/-- What the step answers. -/
abbrev Result := Host.Outcome State Fault Refusal

/-! Memory. -/

/-- The byte listed at an address, if one is. -/
def Memory.read : Memory → Nat → Option Byte
  | [], _ => none
  | (a, b) :: m, i => if i = a then some b else Memory.read m i

/-- The memory with a byte stored; the addresses stay strictly rising. -/
def Memory.write : Memory → Nat → Byte → Memory
  | [], i, x => [(i, x)]
  | (a, b) :: m, i, x =>
    if i < a then (i, x) :: (a, b) :: m
    else if i = a then (a, x) :: m
    else (a, b) :: Memory.write m i x

/-- Every listed address is at least k, and they strictly rise. -/
def Memory.risingFrom : Nat → Memory → Bool
  | _, [] => true
  | k, (a, _) :: m => decide (k ≤ a) && Memory.risingFrom (a + 1) m

/-- The canonical form: addresses strictly rising. No byte is what an unlisted address reads as, since
an unlisted address has no listed value (log 8). -/
def Memory.wf (m : Memory) : Bool := Memory.risingFrom 0 m

/-- A buffer's bytes are in canonical form and below its size. -/
def Buffer.wf (b : Buffer) : Bool := Memory.wf b.bytes && b.bytes.all (fun c => decide (c.1 < b.size))

/-- Byte i of a buffer: the listed byte, or a free value where the HOST gave none (log 8). -/
def Buffer.read (b : Buffer) (i : Nat) : Byte := (Memory.read b.bytes i).getD (Config.bufFree b.id i)

/-- A buffer with byte i stored (20_memory R71). -/
def Buffer.write (b : Buffer) (i : Nat) (x : Byte) : Buffer := { b with bytes := Memory.write b.bytes i x }

/-- The indices of BUF: below LEN, and below the size of the HOST's buffer (20_memory R62). -/
def State.bufIndexOk (s : State) (i : Nat) : Bool := decide (i < s.len) && decide (i < s.buf.size)

/-! The access primitives. -/

/-- An external action is appended to the trace (00_scope R11). -/
def State.log (s : State) (a : Action) : State := { s with trace := a :: s.trace }

/-- The value the next CSR read returns (10_state R33): the PERIPHERAL's next answer, or a free value. -/
def State.csrView (s : State) : Byte := s.csrAnswers.headD (Config.csrFree s.csrReads)

/-- The value the next DATA read returns (10_state R35). -/
def State.dataView (s : State) : Byte := s.dataAnswers.headD (Config.dataFree s.dataReads)

/-- `T <- MemRead(REG:CSR, 1)` (20_memory R66). -/
def State.readCsr (s : State) : State :=
  { s with
    t := s.csrView
    csrAnswers := s.csrAnswers.tail
    csrReads := s.csrReads + 1
    trace := .csrRead s.csrView :: s.trace }

/-- `V <- MemRead(REG:DATA, 1)` (20_memory R68). -/
def State.readData (s : State) : State :=
  { s with
    v := s.dataView
    dataAnswers := s.dataAnswers.tail
    dataReads := s.dataReads + 1
    trace := .dataRead s.dataView :: s.trace }

/-- `MemWrite(REG:CSR, 1, w)`, after which the step `Delay(T_SETUP)` is due (20_memory R67, R73). -/
def State.writeCsr (s : State) (w : Byte) : State :=
  { s with csrWrite := w, setup := true, trace := .csrWrite w :: s.trace }

/-- `MemWrite(REG:DATA, 1, b)`, after which the step `Delay(T_SETUP)` is due (20_memory R69, R73). -/
def State.writeData (s : State) (b : Byte) : State :=
  { s with dataWrite := b, setup := true, trace := .dataWrite b :: s.trace }

/-- A register write that conveys the response address (44 R231, 30_encoding R116). Log 14. -/
def State.convey (s : State) (w : RegWrite) : State :=
  match w with
  | .csr w => s.writeCsr (namedBits s.cfg.stop w)
  | .data b => s.writeData b

/-- `IE <- b` (10_state R30). -/
def State.setIe (s : State) (b : Bool) : State := { s with ie := b, trace := .ieWrite b :: s.trace }

/-! The successors of SEQ. -/

/-- The mode of the wait a state makes, if it is a waiting state (40 R130; W_FWAIT by its switch, 42
R177). It is wiring of the calling state (30_encoding R99). -/
def waitMode (c : Config) : Seq → Option WMode
  | .ap10Wait => some .req
  | .wWait => some .req
  | .rWait1 => some .req
  | .rWait2 => some .req
  | .rWait3 => some .req
  | .wFwait => some (if c.finalWaitAborts then .req else .any)
  | .rPoll => some .rdy
  | .wIdle => some .idle
  | .rPidle => some .idle
  | .rIdle => some .idle
  | _ => none

/-- The ten waiting states (10_state R24). -/
def isWaiting (c : Config) (q : Seq) : Bool := (waitMode c q).isSome

/-- `SEQ <- q`. On entry to a waiting state `PSEQ <- P_READ` (40 R131). -/
def State.goto (s : State) (q : Seq) : State :=
  { s with seq := q, pseq := if isWaiting s.cfg q then .pRead else s.pseq }

/-- The successor of a waiting state whose wait has ended without an abort (41 R155, 42 R173, R177,
R179, 43 R191, R193, R197, R199, R202, R209). A state that does not wait has none and stays. -/
def afterWait (c : Config) : Seq → Seq
  | .ap10Wait => .ap10Low
  | .wWait => .wLoad
  | .wFwait => .wStop
  | .wIdle => .tOk
  | .rWait1 => .rSub
  | .rWait2 => .rReaddr
  | .rPidle => .rStart
  | .rWait3 => .rInit
  | .rPoll => if c.lastStopBeforePoll then .rCheck else .rLstop
  | .rIdle => .tOk
  | q => q

/-- The state after the address phase (41 R159). -/
def afterAddress (op : BitVec 2) : Seq := if op = 1 then .wInit else .rWait1

/-- The state after R_LSTOP (43 R203). -/
def afterLstop (c : Config) : Seq := if c.lastStopBeforePoll then .rPoll else .rCheck

/-- The successor of a state that wrote a register, taken when its Delay(T_SETUP) is done (41 R151 to
R158, 42 R175, R178, 43 R192 to R207). A state that writes no register stays. -/
def afterSetup (c : Config) (op : BitVec 2) : Seq → Seq
  | .tReset => .apSel
  | .ap10Hdr => .ap10Start
  | .ap10Start => .ap10Wait
  | .ap10Low => afterAddress op
  | .ap7Addr => .ap7Start
  | .ap7Start => afterAddress op
  | .wByte => .wInc
  | .wStop => .wIdle
  | .rSub => .rWait2
  | .rReaddr => .rPivot
  | .rPivot => .rPidle
  | .rStart => .rWait3
  | .rLstop => afterLstop c
  | .rDummy => .rInc
  | q => q

/-- The next action of SL_PASS, or, when none is left, `BUSY <- 0; SEQ <- S_IDLE` (44 R231). -/
def State.nextSlave (s : State) : State :=
  if s.slActions.tail = [] then ({ s with slActions := [], busy := false }).goto .sIdle
  else { s with slActions := s.slActions.tail }

/-! The abort. -/

/-- `raise Abort(s)`: the step ends with SEQ <- T_ABORT, carrying s, which stays in its register (60
R246). -/
def State.raiseAbort (s : State) (src : AbortSrc) : State := ({ s with abortSrc := src }).goto .tAbort

/-- The status the abort carries (60 R246). -/
def State.abortStatus (s : State) : Byte :=
  match s.abortSrc with
  | .r => s.r
  | .t => s.t

/-- The end of a transaction: `IE <- 1; RET <- x; BUSY <- 0; SEQ <- S_IDLE` (60 R245, R246). -/
def State.finish (s : State) (x : Byte) : State :=
  ({ s.setIe true with ret := x, busy := false }).goto .sIdle

/-! The poll (40 R131 to R135). -/

/-- P_READ (40 R132). -/
def State.pollRead (s : State) : State := { s.readCsr with pseq := .pDly }

/-- P_DLY (40 R133). -/
def State.pollDelay (s : State) : State := { s.log (.delay s.cfg.tPoll) with pseq := .pTest }

/-- P_TEST when no bit of the mask is set: poll again (40 R134). -/
def State.pollAgain (s : State) : State := { s with pseq := .pRead }

/-- The exit of an unclassified wait (40 R136 to R138). -/
def State.endWait (s : State) : State := s.goto (afterWait s.cfg s.seq)

/-- The exit of WAIT_REQ and the caller's test of R (40 R135, R142; 60 R242): R <- 0 or T, then
Abort(R) if R is not 0. Log 5. -/
def State.endClassified (s : State) : State :=
  let s1 := { s with r := classify s.t }
  if s1.r ≠ 0 then s1.raiseAbort .r else s1.endWait

/-- P_TEST of mode m (40 R134 to R138). -/
def State.pollTest (s : State) (m : WMode) : State :=
  if m.ends s.t then (if m = .req then s.endClassified else s.endWait) else s.pollAgain

/-- One step of a poll in mode m, by PSEQ (40 R131). -/
def State.pollStep (s : State) (m : WMode) : State :=
  match s.pseq with
  | .pRead => s.pollRead
  | .pDly => s.pollDelay
  | .pTest => s.pollTest m

/-- R_CHECK (43 R204): abort with T if IDLE or NO_ACK is set, else take the byte. -/
def State.checkSnapshot (s : State) : State :=
  if checkFails s.t then s.raiseAbort .t else s.goto .rFetch

/-! Block reset (70 R280, R281). -/

/-- Block reset of an idle ENGINE: the ENGINE's own registers become what they are in State.reset (70 R280; those
with no value, log 7). It makes no external action: IE, the buffer, the CSR, the DATA register and
everything else outside the ENGINE keep their values (70 R281, 92 D15). -/
def State.blockReset (s : State) : State :=
  { State.reset with
    cfg := s.cfg, ie := s.ie, csrWrite := s.csrWrite, dataWrite := s.dataWrite, buf := s.buf
    csrAnswers := s.csrAnswers, dataAnswers := s.dataAnswers, csrReads := s.csrReads, dataReads := s.dataReads
    offer := s.offer, calls := s.calls, slaveCalls := s.slaveCalls
    slaveAddr := s.slaveAddr, attached := s.attached, trace := s.trace }

/-! Acceptance of a command (10_state R26). -/

/-- Acceptance of MASTER_WRITE and MASTER_READ: the operands are latched, BUSY <- 1, SEQ <- T_IRQ_OFF.
The buffer named on the interface becomes BUF, with the bytes this call gives for it: DESIGN CHOICE, log 30,
since the spec speaks of one command and leaves the buffer to the HOST between calls. Outside S_IDLE the
command is ignored; a buffer shorter than length is refused (20_memory R62, 70 R286). -/
def State.acceptMaster (s : State) (op : BitVec 2) (a : DevAddr) (sub : Byte) (n : Nat) : Result :=
  if s.seq ≠ .sIdle then .next s
  else if s.offer.buffer.size < n then .refused .bufferShorterThanLength
  else .next (({ s with
      op := op, addr := a, subaddr := sub, len := n, busy := true, buf := s.offer.buffer }).goto .tIrqOff)

end Sys2Proof.Machine
end

