-- ==== Sys2Proof/Machine/CommandWords.lean ====
section
/-! DEFINITION. The command words written to the CSR (30_encoding R100, R103): one CSR write, after which
Delay(T_SETUP) is due (20_memory R67). The word written is the configured one (R100, 92 D6); a STOP row's
operand is where CSR_STOP stands in the word of the table, and so in the configured one at its default. -/

namespace Sys2Proof.Machine

/-- CW_RESET (41 R151). -/
def execCwReset (s : State) : Result := .next (s.writeCsr s.cfg.cwReset)

/-- CW_START_W (41 R154, R158). -/
def execCwStartW (s : State) : Result := .next (s.writeCsr s.cfg.cwStartW)

/-- CW_STOP_W (42 R178). -/
def execCwStopW (_p : StopFlag) (s : State) : Result := .next (s.writeCsr s.cfg.cwStopW)

/-- CW_PIVOT (43 R196). -/
def execCwPivot (_p : StopFlag) (s : State) : Result := .next (s.writeCsr s.cfg.cwPivot)

/-- CW_START_R (43 R198). -/
def execCwStartR (s : State) : Result := .next (s.writeCsr s.cfg.cwStartR)

/-- CW_STOP_R (43 R203). -/
def execCwStopR (_p : StopFlag) (s : State) : Result := .next (s.writeCsr s.cfg.cwStopR)

/-- CW_SLAVE_RESET: the word of SL_PASS's first action (44 R231). slaveAddr records from here on the response
address, "conveyed by a means the source does not give": whether register writes convey it, before this word
or after it, is free (log 14), and its 10 bits are the model's choice (log 31). -/
def execCwSlaveReset (hi : BitVec 4) (lo : BitVec 2) (s : State) : Result :=
  .next ({ s.writeCsr (slaveResetByte hi lo) with slaveAddr := some s.slAddr })

/-- CW_SLAVE_ENABLE: the word of SL_PASS's third action (44 R231). -/
def execCwSlaveEnable (hi lo : BitVec 3) (s : State) : Result := .next (s.writeCsr (slaveEnableByte hi lo))

end Sys2Proof.Machine
end

