-- ==== Sys2Proof/Machine/Commands.lean ====
section
/-! DEFINITION. The four commands of F-CMD (30_encoding R91, R92): what an ENGINE does in the step a
command is presented to it. The transaction that follows is the sequencer's (Sequencer.lean). -/

namespace Sys2Proof.Machine

/-- MASTER_WRITE (42 R170): acceptance with OP = 1 (10_state R26). -/
def execMasterWrite (a : DevAddr) (sub : Byte) (n : Nat) (s : State) : Result := s.acceptMaster 1 a sub n

/-- MASTER_READ (43 R190): acceptance with OP = 2 (10_state R26). -/
def execMasterRead (a : DevAddr) (sub : Byte) (n : Nat) (s : State) : Result := s.acceptMaster 2 a sub n

/-- REGISTER_SLAVE (44 R230): OP <- 3, BUSY <- 1, SEQ <- SL_PASS (10_state R26); subAddress and length are
ignored (30_encoding R91). The response address, the callback and what is open of the actions are kept for
SL_PASS. With the switch off it is refused by name (44 R232). Log 13. -/
def execRegisterSlave (a : DevAddr) (_sub : Byte) (_n : Nat) (s : State) : Result :=
  if s.seq ≠ .sIdle then .next s
  else if s.cfg.slaveExecuted then .next (({ s with
      op := 3, busy := true, slAddr := a, slCallback := s.offer.callback, slaveCalls := s.slaveCalls + 1
      slActions := slavePlan (Config.slaveBefore s.slaveCalls a) (Config.slaveAfter s.slaveCalls a)
      slResetHi := Config.slaveResetHi s.slaveCalls a, slResetLo := Config.slaveResetLo s.slaveCalls a
      slEnableHi := Config.slaveEnableHi s.slaveCalls a
      slEnableLo := Config.slaveEnableLo s.slaveCalls a }).goto .slPass)
  else .refused .registerSlave

/-- NO_COMMAND: "The ENGINE does nothing when it is presented" (30_encoding R115). -/
def execNoCommand (_a : DevAddr) (_sub : Byte) (_n : Nat) (s : State) : Result := .next s

end Sys2Proof.Machine
end

