-- ==== Sys2Proof/Machine/DataBytes.lean ====
section
/-! DEFINITION. The bytes written to the DATA register (30_encoding R96 to R98, R104 to R111): one DATA
write, after which Delay(T_SETUP) is due (20_memory R69). -/

namespace Sys2Proof.Machine

/-- HDR10_W (30_encoding R105, 41 R153). -/
def execHdr10W (h : BitVec 2) (s : State) : Result := .next (s.writeData (headerByte h false))

/-- HDR10_R (30_encoding R106, 43 R194). -/
def execHdr10R (h : BitVec 2) (s : State) : Result := .next (s.writeData (headerByte h true))

/-- ADDR7_W (30_encoding R107, 41 R156, R157). -/
def execAddr7W (a : BitVec 7) (s : State) : Result := .next (s.writeData (addressByte a false))

/-- ADDR7_R (30_encoding R108, 43 R194). -/
def execAddr7R (a : BitVec 7) (s : State) : Result := .next (s.writeData (addressByte a true))

/-- SUBADDR_BYTE: unchanged (30_encoding R110, 43 R192). -/
def execSubaddrByte (b : Byte) (s : State) : Result := .next (s.writeData b)

/-- WDATA_BYTE: unchanged (30_encoding R110, 42 R175). -/
def execWdataByte (b : Byte) (s : State) : Result := .next (s.writeData b)

/-- DUMMY_BYTE: the constant 0x00 (30_encoding R111, 43 R207). -/
def execDummyByte (s : State) : Result := .next (s.writeData 0x00)

end Sys2Proof.Machine
end

