-- ==== Sys2Proof/Machine/Status.lean ====
section
/-! DEFINITION. What each class of a snapshot does (30_encoding R112, R113; 40 R134 to R138; 43 R204). A
class is issued when the snapshot in T belongs to it (Issue.lean), so a rule's T is the register T and
the operand bits are T's own free bits. Log 21. -/

namespace Sys2Proof.Machine

/-- ST_REQ_SPIN: poll again (30_encoding R112). -/
def execStReqSpin (_noAck _ready : Bool) (_low : BitVec 4) (s : State) : Result := .next s.pollAgain

/-- ST_REQ_PROCEED: WAIT_REQ ends with R = 0, WAIT_ANY ends (30_encoding R112). -/
def execStReqProceed (_idle _noAck _ready : Bool) (_low : BitVec 4) (s : State) : Result :=
  if waitMode s.cfg s.seq = some .req then .next (({ s with r := 0 }).endWait) else .next s.endWait

/-- ST_REQ_TERMINAL: WAIT_REQ ends with R = T and its caller aborts, WAIT_ANY ends (30_encoding R112, 60
R242). -/
def execStReqTerminal (_noAck _ready : Bool) (_low : BitVec 4) (s : State) : Result :=
  if waitMode s.cfg s.seq = some .req then .next (({ s with r := s.t }).raiseAbort .r)
  else .next s.endWait

/-- ST_RDY_SPIN: poll again (30_encoding R113). In R_CHECK, which no snapshot of this class reaches (43
R204 f), the check reads T as it stands. -/
def execStRdySpin (_noAck _req : Bool) (_low : BitVec 4) (s : State) : Result :=
  if s.seq = .rCheck then .next s.checkSnapshot else .next s.pollAgain

/-- ST_RDY_ACCEPT: ends the wait; in R_CHECK, take the byte (30_encoding R113, 43 R204). -/
def execStRdyAccept (_req : Bool) (_low : BitVec 4) (s : State) : Result :=
  if s.seq = .rCheck then .next (s.goto .rFetch) else .next s.endWait

/-- ST_RDY_ABORT_IDLE: ends the wait; in R_CHECK, Abort(T) (30_encoding R113, 43 R204). -/
def execStRdyAbortIdle (_noAck _ready _req : Bool) (_low : BitVec 4) (s : State) : Result :=
  if s.seq = .rCheck then .next (s.raiseAbort .t) else .next s.endWait

/-- ST_RDY_ABORT_NACK: ends the wait; in R_CHECK, Abort(T) (30_encoding R113, 43 R204). -/
def execStRdyAbortNack (_req : Bool) (_low : BitVec 4) (s : State) : Result :=
  if s.seq = .rCheck then .next (s.raiseAbort .t) else .next s.endWait

/-- ST_IDLE_SPIN: poll again (40 R138). -/
def execStIdleSpin (_noAck _ready _req : Bool) (_low : BitVec 4) (s : State) : Result := .next s.pollAgain

/-- ST_IDLE_END: the wait ends (40 R138). -/
def execStIdleEnd (_noAck _ready _req : Bool) (_low : BitVec 4) (s : State) : Result := .next s.endWait

end Sys2Proof.Machine
end

