-- ==== Sys2Proof/Machine/Waits.lean ====
section
/-! DEFINITION. The four modes of the status wait primitive (40 R130): one step of a poll. -/

namespace Sys2Proof.Machine

/-- WAIT_REQ: mask 0x90, classified (40 R135). -/
def execWaitReq (s : State) : Result := .next (s.pollStep .req)

/-- WAIT_ANY: mask 0x90, not classified (40 R136). -/
def execWaitAny (s : State) : Result := .next (s.pollStep .any)

/-- WAIT_RDY: mask 0xA0, not classified (40 R137). -/
def execWaitRdy (s : State) : Result := .next (s.pollStep .rdy)

/-- WAIT_IDLE: mask 0x80, not classified (40 R138). -/
def execWaitIdle (s : State) : Result := .next (s.pollStep .idle)

end Sys2Proof.Machine
end

