-- ==== Sys2Proof/Machine/Dispatch.lean ====
section
/-! DEFINITION. One arm per instruction, in the order of spec/opcode_table.json. -/

namespace Sys2Proof.Machine

def exec (i : Instr) (s : State) : Host.Outcome State Fault Refusal :=
  match i with
  -- F-CMD
  | .masterWrite a sub n => Sys2Proof.Machine.execMasterWrite a sub n s
  | .masterRead a sub n => Sys2Proof.Machine.execMasterRead a sub n s
  | .registerSlave a sub n => Sys2Proof.Machine.execRegisterSlave a sub n s
  | .noCommand a sub n => Sys2Proof.Machine.execNoCommand a sub n s
  -- F-WMODE
  | .waitReq => Sys2Proof.Machine.execWaitReq s
  | .waitAny => Sys2Proof.Machine.execWaitAny s
  | .waitRdy => Sys2Proof.Machine.execWaitRdy s
  | .waitIdle => Sys2Proof.Machine.execWaitIdle s
  -- F-CSRW
  | .cwReset => Sys2Proof.Machine.execCwReset s
  | .cwStartW => Sys2Proof.Machine.execCwStartW s
  | .cwStopW p => Sys2Proof.Machine.execCwStopW p s
  | .cwPivot p => Sys2Proof.Machine.execCwPivot p s
  | .cwStartR => Sys2Proof.Machine.execCwStartR s
  | .cwStopR p => Sys2Proof.Machine.execCwStopR p s
  | .cwSlaveReset hi lo => Sys2Proof.Machine.execCwSlaveReset hi lo s
  | .cwSlaveEnable hi lo => Sys2Proof.Machine.execCwSlaveEnable hi lo s
  -- F-HDR10, F-ADDR7, F-BYTE
  | .hdr10W h => Sys2Proof.Machine.execHdr10W h s
  | .hdr10R h => Sys2Proof.Machine.execHdr10R h s
  | .addr7W a => Sys2Proof.Machine.execAddr7W a s
  | .addr7R a => Sys2Proof.Machine.execAddr7R a s
  | .subaddrByte b => Sys2Proof.Machine.execSubaddrByte b s
  | .wdataByte b => Sys2Proof.Machine.execWdataByte b s
  | .dummyByte => Sys2Proof.Machine.execDummyByte s
  -- F-CSRR
  | .stReqSpin n d low => Sys2Proof.Machine.execStReqSpin n d low s
  | .stReqProceed id n d low => Sys2Proof.Machine.execStReqProceed id n d low s
  | .stReqTerminal n d low => Sys2Proof.Machine.execStReqTerminal n d low s
  | .stRdySpin n q low => Sys2Proof.Machine.execStRdySpin n q low s
  | .stRdyAccept q low => Sys2Proof.Machine.execStRdyAccept q low s
  | .stRdyAbortIdle n d q low => Sys2Proof.Machine.execStRdyAbortIdle n d q low s
  | .stRdyAbortNack q low => Sys2Proof.Machine.execStRdyAbortNack q low s
  | .stIdleSpin n d q low => Sys2Proof.Machine.execStIdleSpin n d q low s
  | .stIdleEnd n d q low => Sys2Proof.Machine.execStIdleEnd n d q low s

end Sys2Proof.Machine
end

