-- ==== Sys2Proof/Machine/Issue.lean ====
section
/-! DEFINITION. Which row of the opcode table the next step executes: the word presented by the HOST, the
class of the snapshot in T, or the word the state's wiring forms (10_state R24, log 1). -/

namespace Sys2Proof.Machine

/-- The row of a wait mode (30_encoding R99). -/
def WMode.instr : WMode → Instr
  | .req => .waitReq
  | .any => .waitAny
  | .rdy => .waitRdy
  | .idle => .waitIdle

/-- The class of a snapshot in a mode (30_encoding R112, R113; 40 R138). -/
def WMode.statusClass : WMode → Byte → Instr
  | .req => classifyReq
  | .any => classifyReq
  | .rdy => classifyRdy
  | .idle => classifyIdle

/-- The place a snapshot is decoded in. -/
def WMode.statusSlot : WMode → Slot
  | .req => .statusReq
  | .any => .statusReq
  | .rdy => .statusRdy
  | .idle => .statusIdle

/-- The row a waiting state issues: the mode for the read and the delay of a poll, the class of T for
the test (40 R131 to R134). -/
def issueWait (m : WMode) (s : State) : Instr :=
  match s.pseq with
  | .pRead => m.instr
  | .pDly => m.instr
  | .pTest => m.statusClass s.t

/-- The row the ENGINE issues in a state of a transaction, if the state has one. -/
def issue (s : State) : Option Instr :=
  match s.seq with
  | .tReset => some .cwReset
  | .ap10Hdr => some (.hdr10W (addrHigh s.addr))
  | .ap10Start => some .cwStartW
  | .ap10Wait => some (issueWait .req s)
  | .ap10Low => some (.addr7W (addrLow s.addr))
  | .ap7Addr => some (.addr7W (addrLow s.addr))
  | .ap7Start => some .cwStartW
  | .wWait => some (issueWait .req s)
  | .wByte => some (.wdataByte s.v)
  | .wFwait => some (issueWait (if s.cfg.finalWaitAborts then .req else .any) s)
  | .wStop => some (.cwStopW s.cfg.stop)
  | .wIdle => some (issueWait .idle s)
  | .rWait1 => some (issueWait .req s)
  | .rSub => some (.subaddrByte s.subaddr)
  | .rWait2 => some (issueWait .req s)
  | .rReaddr =>
    some (if ten s.addr then .hdr10R (addrHigh s.addr) else .addr7R (addrLow s.addr))
  | .rPivot => some (.cwPivot s.cfg.stop)
  | .rPidle => some (issueWait .idle s)
  | .rStart => some .cwStartR
  | .rWait3 => some (issueWait .req s)
  | .rPoll => some (issueWait .rdy s)
  | .rLstop => if s.idx + 1 = s.len then some (.cwStopR s.cfg.stop) else none
  | .rCheck => some (classifyRdy s.t)
  | .rDummy => some .dummyByte
  | .rIdle => some (issueWait .idle s)
  | .slPass =>
    match s.slActions with
    | [] => none
    | .convey _ :: _ => none
    | .reset :: _ => some (.cwSlaveReset (namedHigh s.cfg.stop s.slResetHi) s.slResetLo)
    | .attach :: _ => none
    | .enable :: _ => some (.cwSlaveEnable (namedMid s.cfg.stop s.slEnableHi) s.slEnableLo)
  | .sIdle => none
  | .tIrqOff => none
  | .apSel => none
  | .wInit => none
  | .wTest => none
  | .wLoad => none
  | .wInc => none
  | .rInit => none
  | .rTest => none
  | .rFetch => none
  | .rStore => none
  | .rInc => none
  | .tOk => none
  | .tAbort => none

/-- The HOST presents a call: its handles stand on the interface and the call is no longer to be made
(30_encoding R91). Log 25. -/
def State.present (s : State) (c : HostCall) (rest : List HostCall) : State :=
  { s with offer := c.offer, calls := rest }

/-- The instruction the next step executes when no delay is due, and the state it executes it in: the
presented command in S_IDLE (10_state R26), unless a block reset comes before it, else what the state issues. -/
def issued (s : State) : Option (Instr × State) :=
  if s.seq = .sIdle then
    match s.calls with
    | [] => none
    | c :: rest =>
      if c.reset then none
      else (decodeCommand s.cfg.lenW c.word).toOption.map (fun i => (i, s.present c rest))
  else (issue s).map (fun i => (i, s))

/-! Placing an instruction where the next step executes it (for State.withFetchWord). -/

/-- A call that carries a word, with a buffer just long enough for its length. -/
def callOf (i : Instr) (n : Nat) : HostCall :=
  { word := encode i, offer := { buffer := { id := 0, size := n, bytes := [] }, callback := 0 } }

/-- The ENGINE idle, with a command presented and LEN_W at its default. -/
def State.placeCommand (s : State) (i : Instr) (n : Nat) : State :=
  { s with
    cfg := { s.cfg with lenW := defaultLenW }
    setup := false, seq := .sIdle, busy := false, calls := callOf i n :: s.calls }

/-- The ENGINE in a state of a transaction of command op, no delay due. -/
def State.placeAt (s : State) (op : BitVec 2) (q : Seq) : State :=
  { s with setup := false, busy := true, op := op, seq := q, pseq := .pRead }

/-- The ENGINE about to test a snapshot. -/
def State.placeStatus (s : State) (op : BitVec 2) (q : Seq) (i : Instr) : State :=
  { s.placeAt op q with pseq := .pTest, t := BitVec.ofNat 8 (encode i) }

/-- CSR_STOP where a word's bit 6 allows it: the ENGINE writes the other unnamed bit as 0 (30_encoding R116). -/
def stopOfBit6 (b : Bool) : StopFlag := if b then .bit6 else .bit5

/-- The state with everything set that makes the next step execute i (log 3). -/
def State.place (s : State) (i : Instr) : State :=
  match i with
  | .masterWrite _ _ n => s.placeCommand i n
  | .masterRead _ _ n => s.placeCommand i n
  | .registerSlave _ _ _ => ({ s with cfg := { s.cfg with slaveExecuted := true } } : State).placeCommand i 0
  | .noCommand _ _ _ => s.placeCommand i 0
  | .waitReq => s.placeAt 1 .wWait
  | .waitAny => { s.placeAt 1 .wFwait with cfg := { s.cfg with finalWaitAborts := false } }
  | .waitRdy => s.placeAt 2 .rPoll
  | .waitIdle => s.placeAt 1 .wIdle
  | .cwReset => s.placeAt 1 .tReset
  | .cwStartW => s.placeAt 1 .ap7Start
  | .cwStopW p => { s.placeAt 1 .wStop with cfg := { s.cfg with stop := p, cwStopW := 0x08 ||| p.mask } }
  | .cwPivot p => { s.placeAt 2 .rPivot with cfg := { s.cfg with stop := p, cwPivot := 0x1C ||| p.mask } }
  | .cwStartR => s.placeAt 2 .rStart
  | .cwStopR p =>
    { s.placeAt 2 .rLstop with cfg := { s.cfg with stop := p, cwStopR := 0x0C ||| p.mask }, idx := 0, len := 1 }
  | .cwSlaveReset hi lo =>
    { s.placeAt 3 .slPass with
      cfg := { s.cfg with slaveExecuted := true, stop := stopOfBit6 (hi.getLsbD 2) }
      slResetHi := hi, slResetLo := lo, slActions := [.reset, .attach, .enable] }
  | .cwSlaveEnable hi lo =>
    { s.placeAt 3 .slPass with
      cfg := { s.cfg with slaveExecuted := true, stop := stopOfBit6 (hi.getLsbD 2) }
      slEnableHi := hi, slEnableLo := lo, slActions := [.enable] }
  | .hdr10W h => { s.placeAt 1 .ap10Hdr with addr := h ++ 0x80#8 }
  | .hdr10R h => { s.placeAt 2 .rReaddr with addr := h ++ 0x80#8 }
  | .addr7W a => { s.placeAt 1 .ap7Addr with addr := 0#3 ++ a }
  | .addr7R a => { s.placeAt 2 .rReaddr with addr := 0#3 ++ a }
  | .subaddrByte b => { s.placeAt 2 .rSub with subaddr := b }
  | .wdataByte b => { s.placeAt 1 .wByte with v := b }
  | .dummyByte => s.placeAt 2 .rDummy
  | .stReqSpin _ _ _ => s.placeStatus 1 .wWait i
  | .stReqProceed _ _ _ _ => s.placeStatus 1 .wWait i
  | .stReqTerminal _ _ _ => s.placeStatus 1 .wWait i
  | .stRdySpin _ _ _ => s.placeStatus 2 .rPoll i
  | .stRdyAccept _ _ => s.placeStatus 2 .rCheck i
  | .stRdyAbortIdle _ _ _ _ => s.placeStatus 2 .rCheck i
  | .stRdyAbortNack _ _ => s.placeStatus 2 .rCheck i
  | .stIdleSpin _ _ _ _ => s.placeStatus 1 .wIdle i
  | .stIdleEnd _ _ _ _ => s.placeStatus 1 .wIdle i

/-- The state whose next step executes the table's word. A word that is no instruction is presented as a
command. -/
def State.placeWord (s : State) (nbits w : Nat) : State :=
  match decodeTableWord nbits w with
  | some i => s.place i
  | none =>
    { s with
      setup := false, seq := .sIdle, busy := false
      calls := { word := w, offer := { buffer := Buffer.empty, callback := 0 } } :: s.calls }

end Sys2Proof.Machine
end

