-- ==== Sys2Proof/Machine/Sequencer.lean ====
section
/-! DEFINITION. The steps of the sequencer that no row of the opcode table stands for (10_state R24): the
interrupt bracket, the branches, the loop counters, the buffer accesses, the DATA read, the epilogue,
the attach of the slave path, and the delay after a register write. -/

namespace Sys2Proof.Machine

/-- T_IRQ_OFF (41 R150). -/
def stepIrqOff (s : State) : Result := .next ((s.setIe false).goto .tReset)

/-- AP_SEL (41 R152). -/
def stepSelect (s : State) : Result := .next (s.goto (if ten s.addr then .ap10Hdr else .ap7Addr))

/-- W_INIT (42 R171). -/
def stepWriteInit (s : State) : Result := .next (({ s with idx := 0 }).goto .wTest)

/-- W_TEST (42 R172). -/
def stepWriteTest (s : State) : Result := .next (s.goto (if s.idx = s.len then .wFwait else .wWait))

/-- W_LOAD: `V <- MemRead(BUF:IDX, 1)` (42 R174). An index outside BUF does not exist (log 23). -/
def stepLoad (s : State) : Result :=
  if s.bufIndexOk s.idx then
    .next (({ s with v := s.buf.read s.idx }).log (.bufRead s.idx (s.buf.read s.idx)) |>.goto .wByte)
  else .fault .bufferIndex

/-- W_INC (42 R176). -/
def stepWriteInc (s : State) : Result := .next (({ s with idx := s.idx + 1 }).goto .wTest)

/-- R_INIT (43 R200). -/
def stepReadInit (s : State) : Result := .next (({ s with idx := 0 }).goto .rTest)

/-- R_TEST (43 R201; with the switch, the successor is R_LSTOP). -/
def stepReadTest (s : State) : Result :=
  .next (s.goto (if s.idx = s.len then .rIdle else if s.cfg.lastStopBeforePoll then .rLstop else .rPoll))

/-- R_LSTOP when IDX + 1 is not LEN: no external action (43 R203). -/
def stepNotLast (s : State) : Result := .next (s.goto (afterLstop s.cfg))

/-- R_FETCH: `V <- MemRead(REG:DATA, 1)` (43 R205). -/
def stepFetch (s : State) : Result := .next (s.readData.goto .rStore)

/-- R_STORE: `MemWrite(BUF:IDX, 1, V)` (43 R206). An index outside BUF does not exist (log 23). -/
def stepStore (s : State) : Result :=
  if s.bufIndexOk s.idx then
    .next (({ s with buf := s.buf.write s.idx s.v }).log (.bufWrite s.idx s.v) |>.goto .rDummy)
  else .fault .bufferIndex

/-- R_INC (43 R208). -/
def stepReadInc (s : State) : Result := .next (({ s with idx := s.idx + 1 }).goto .rTest)

/-- T_OK (60 R245). -/
def stepOk (s : State) : Result := .next (s.finish 0x00)

/-- T_ABORT, taking the abort: RET receives the status carried (60 R246). -/
def stepAbort (s : State) : Result := .next (s.finish s.abortStatus)

/-- The second action of SL_PASS: the callback is attached to the fixed interrupt index (44 R231). Log 24. -/
def stepAttach (s : State) : Result :=
  .next (({ s with attached := some s.slCallback }).log (.attach s.cfg.slaveIrqIndex s.slCallback)).nextSlave

/-- SL_PASS when its next action is no row of the table. The two words are rows (Issue.lean) and have no
step here. -/
def stepSlave (s : State) : Result :=
  match s.slActions with
  | [] => .next s.nextSlave
  | .convey w :: _ => .next (s.convey w)
  | .attach :: _ => stepAttach s
  | .reset :: _ => .next s
  | .enable :: _ => .next s

/-- `Delay(T_SETUP)` after a register write, then SEQ <- next (20_memory R73; the state's own rule). Log 4. -/
def stepSetup (s : State) : Result :=
  let s1 := { s.log (.delay s.cfg.tSetup) with setup := false }
  .next (if s.seq = .slPass then s1.nextSlave else s1.goto (afterSetup s.cfg s.op s.seq))

/-- The block reset that comes before a call (70 R281). The ENGINE is idle: "a model does not reset a busy
ENGINE". Log 26. -/
def stepBlockReset (s : State) (c : HostCall) (rest : List HostCall) : Result :=
  .next { s.blockReset with calls := { c with reset := false } :: rest }

/-- S_IDLE with no command issued: with no call to make nothing happens; a block reset may come before the
call; a word wider than F-CMD carries a length no command has (30_encoding R91) and is refused. Log 22. -/
def stepIdle (s : State) : Result :=
  match s.calls with
  | [] => .next s
  | c :: rest => if c.reset then stepBlockReset s c rest else .refused .commandTooWide

/-- The step of a state that issues no row of the opcode table. The states of the last lines issue one
in every case (Issue.lean) and have no step here. -/
def stepUnissued (s : State) : Result :=
  match s.seq with
  | .sIdle => stepIdle s
  | .tIrqOff => stepIrqOff s
  | .apSel => stepSelect s
  | .wInit => stepWriteInit s
  | .wTest => stepWriteTest s
  | .wLoad => stepLoad s
  | .wInc => stepWriteInc s
  | .rInit => stepReadInit s
  | .rTest => stepReadTest s
  | .rLstop => stepNotLast s
  | .rFetch => stepFetch s
  | .rStore => stepStore s
  | .rInc => stepReadInc s
  | .tOk => stepOk s
  | .tAbort => stepAbort s
  | .slPass => stepSlave s
  | .tReset => .next s
  | .ap10Hdr => .next s
  | .ap10Start => .next s
  | .ap10Wait => .next s
  | .ap10Low => .next s
  | .ap7Addr => .next s
  | .ap7Start => .next s
  | .wWait => .next s
  | .wByte => .next s
  | .wFwait => .next s
  | .wStop => .next s
  | .wIdle => .next s
  | .rWait1 => .next s
  | .rSub => .next s
  | .rWait2 => .next s
  | .rReaddr => .next s
  | .rPivot => .next s
  | .rPidle => .next s
  | .rStart => .next s
  | .rWait3 => .next s
  | .rPoll => .next s
  | .rCheck => .next s
  | .rDummy => .next s
  | .rIdle => .next s

end Sys2Proof.Machine
end

