-- ==== Sys2Proof/Machine/Step.lean ====
section
/-! DEFINITION. One step of the ENGINE (00_scope R6): the delay that is due, else the row issued (the
command the HOST presents, or the row the state issues), else the step that no row stands for. -/

namespace Sys2Proof.Machine

/-- One step. -/
def step (s : State) : Host.Outcome State Fault Refusal :=
  if s.setup then stepSetup s
  else
    match issued s with
    | some (i, s') => exec i s'
    | none => stepUnissued s

/-- The state whose next step executes the table's word (log 2, log 3). -/
def State.withFetchWord (s : State) (nbits w : Nat) : State := s.placeWord nbits w

end Sys2Proof.Machine
end

