-- ==== Sys2Proof/Safety.lean ====
section
/-! DEFINITION. What holds of every state the rules can reach, and what a safe run is. The invariant is
the spec's: each field cites the rule it says. -/

namespace Sys2Proof.Safety

open Sys2Proof.Machine

/-- The states of a master transaction (10_state R24). -/
def inMaster (q : Seq) : Bool := q ≠ .sIdle && q ≠ .slPass

/-- The states whose rule writes the CSR or the DATA register (20_memory R73). -/
def writesRegister (q : Seq) : Bool :=
  [Seq.tReset, .ap10Hdr, .ap10Start, .ap10Low, .ap7Addr, .ap7Start, .wByte, .wStop, .rSub, .rReaddr,
    .rPivot, .rStart, .rLstop, .rDummy, .slPass].contains q

/-- The write body (42). -/
def inWrite (q : Seq) : Bool :=
  [Seq.wInit, .wTest, .wWait, .wLoad, .wByte, .wInc, .wFwait, .wStop, .wIdle].contains q

/-- The read body (43). -/
def inRead (q : Seq) : Bool :=
  [Seq.rWait1, .rSub, .rWait2, .rReaddr, .rPivot, .rPidle, .rStart, .rWait3, .rInit, .rTest, .rPoll,
    .rLstop, .rCheck, .rFetch, .rStore, .rDummy, .rInc, .rIdle].contains q

/-- The 10-bit and the 7-bit branch of the address phase (41 R152). -/
def inTenBit (q : Seq) : Bool := [Seq.ap10Hdr, .ap10Start, .ap10Wait, .ap10Low].contains q

def inSevenBit (q : Seq) : Bool := [Seq.ap7Addr, .ap7Start].contains q

/-- Inside an iteration of a byte loop (42 R172, 43 R201). -/
def inLoop (q : Seq) : Bool :=
  [Seq.wWait, .wLoad, .wByte, .wInc, .rPoll, .rLstop, .rCheck, .rFetch, .rStore, .rDummy, .rInc].contains q

/-- After a byte loop that was not aborted. -/
def afterLoop (q : Seq) : Bool := [Seq.wFwait, .wStop, .wIdle, .rIdle, .tOk].contains q

/-- Between an accepted snapshot and the next poll of the read loop (43 R204 to R208). -/
def hasAccepted (q : Seq) : Bool := [Seq.rFetch, .rStore, .rDummy, .rInc].contains q

/-- The buffers of the state are in canonical form. -/
def bufsWf (s : State) : Bool :=
  s.buf.wf && s.offer.buffer.wf && s.calls.all (fun c => c.offer.buffer.wf)

/-- What holds of every state of a run. -/
structure Inv (s : State) : Prop where
  /-- "BUSY is 1 exactly while SEQ != S_IDLE" (10_state R27). -/
  busy_iff : s.busy = true ↔ s.seq ≠ .sIdle
  /-- A delay is due only in a state that writes a register (20_memory R73). -/
  setup_writes : s.setup = true →
    writesRegister s.seq = true ∧ (s.seq = .slPass → s.slActions.headD .attach ≠ .attach)
  /-- OP is the command whose body runs (10_state R26, 41 R159). -/
  op_write : inWrite s.seq = true → s.op = 1
  op_read : inRead s.seq = true → s.op = 2
  op_master : inMaster s.seq = true → s.op = 1 ∨ s.op = 2
  op_slave : s.seq = .slPass → s.op = 3
  /-- SL_PASS is entered only when the model executes REGISTER_SLAVE (44 R232). -/
  slave_on : s.seq = .slPass → s.cfg.slaveExecuted = true
  /-- The branch of the address phase is the range of ADDR (41 R152). -/
  addr_ten : inTenBit s.seq = true → ten s.addr = true
  addr_seven : inSevenBit s.seq = true → ten s.addr = false
  /-- IE is 0 from T_IRQ_OFF to the end of a master transaction (60 R254). -/
  ie_off : inMaster s.seq = true → s.seq ≠ .tIrqOff → s.ie = false
  /-- The buffer has at least LEN bytes, and LEN fits LEN_W bits (20_memory R62, 10_state R21). -/
  len_fits : inMaster s.seq = true → s.len ≤ s.buf.size ∧ s.len < 2 ^ s.cfg.lenW
  /-- IDX never passes LEN (42 R176, 43 R208). -/
  idx_test : s.seq = .wTest ∨ s.seq = .rTest → s.idx ≤ s.len
  idx_loop : inLoop s.seq = true → s.idx < s.len
  idx_done : afterLoop s.seq = true → s.idx = s.len
  /-- A snapshot that reaches R_CHECK has ended WAIT_RDY (43 R202, R204). -/
  t_ready : s.seq = .rCheck ∨ (s.seq = .rLstop ∧ s.cfg.lastStopBeforePoll = false) → WMode.rdy.ends s.t = true
  /-- "When this state passes, T & 0xE0 == 0x20" (43 R204). -/
  t_accepted : hasAccepted s.seq = true → s.t &&& 0xE0 = 0x20
  /-- The status an abort carries has IDLE or NO_ACK set (40 R139, 43 R204). -/
  abort_class : s.seq = .tAbort → checkFails s.abortStatus = true
  /-- "Every nonzero RET has bit 7 or bit 6 set" (30_encoding R114). -/
  ret_class : s.ret ≠ 0 → checkFails s.ret = true
  /-- The canonical form of memory. -/
  bufs_wf : bufsWf s = true
  /-- CSR and DATA are distinct locations (20_memory R61). -/
  reg_distinct : s.cfg.csrAddr ≠ s.cfg.dataAddr

/-- A step is safe when it does not fault: no access outside the buffer (20_memory R62). -/
def SafeStep (s : State) : Prop := ∀ f, step s ≠ .fault f

/-! Runs, and what a run shows (00_scope R11). -/

/-- k steps, stopping at the first fault or refusal. -/
def steps : Nat → State → Result
  | 0, s => .next s
  | k + 1, s =>
    match step s with
    | .next t => steps k t
    | .fault f => .fault f
    | .refused r => .refused r

/-- What the PERIPHERAL answers to the k-th CSR read from now (20_memory R66). -/
def csrAnswer (s : State) (k : Nat) : Byte := s.csrAnswers.getD k (Config.csrFree (s.csrReads + k))

/-- The fairness premise (70 R306): in each waiting state the run enters, the PERIPHERAL eventually answers
a poll with a bit of that state's poll mask. -/
def PeripheralAnswers (s : State) : Prop :=
  ∀ (n : Nat) (t : State) (m : WMode), steps n s = .next t → waitMode t.cfg t.seq = some m → t.pseq = .pRead →
    ∃ k, csrAnswer t k &&& m.mask ≠ 0

/-- A CSR write and its delay have been made (20_memory R73). -/
def wroteCsr (s : State) (w : Byte) : State :=
  { s with csrWrite := w, trace := .delay s.cfg.tSetup :: .csrWrite w :: s.trace }

/-- A DATA write and its delay have been made (20_memory R73). -/
def wroteData (s : State) (b : Byte) : State :=
  { s with dataWrite := b, trace := .delay s.cfg.tSetup :: .dataWrite b :: s.trace }

/-- A write of the CSR or of the DATA register. -/
def isRegWrite : Action → Bool
  | .csrWrite _ => true
  | .dataWrite _ => true
  | .ieWrite _ => false
  | .csrRead _ => false
  | .dataRead _ => false
  | .bufRead _ _ => false
  | .bufWrite _ _ => false
  | .delay _ => false
  | .attach _ _ => false

/-- The CSR and DATA writes of a trace, in the trace's order. -/
def regWrites (l : List Action) : List Action := l.filter isRegWrite

/-- A trace without its delays, in the trace's order. -/
def noDelays (l : List Action) : List Action :=
  l.filter fun a =>
    match a with
    | .delay _ => false
    | .ieWrite _ => true
    | .csrWrite _ => true
    | .dataWrite _ => true
    | .csrRead _ => true
    | .dataRead _ => true
    | .bufRead _ _ => true
    | .bufWrite _ _ => true
    | .attach _ _ => true

/-- The external action of a register write that conveys the response address (44 R231). -/
def conveyAction (p : StopFlag) : RegWrite → Action
  | .csr w => .csrWrite (namedBits p w)
  | .data b => .dataWrite b

/-- The external actions of SL_PASS less its delays, oldest first, when the writes that convey the response
address are given (44 R231). -/
def slavePassActions (s : State) (before after : List RegWrite) : List Action :=
  before.map (conveyAction s.cfg.stop)
    ++ [.csrWrite (slaveResetByte (namedHigh s.cfg.stop s.slResetHi) s.slResetLo)]
    ++ after.map (conveyAction s.cfg.stop)
    ++ [.attach s.cfg.slaveIrqIndex s.slCallback,
        .csrWrite (slaveEnableByte (namedMid s.cfg.stop s.slEnableHi) s.slEnableLo)]

/-- The register writes of the address phase, oldest first (41 R160 f). -/
def addressWrites (c : Config) (a : DevAddr) : List Action :=
  if ten a then [.dataWrite (hdrW a), .csrWrite c.cwStartW, .dataWrite (addrW a)]
  else [.dataWrite (addrW a), .csrWrite c.cwStartW]

/-- The register writes of a MASTER_WRITE that succeeds, oldest first (42 R170, R183). -/
def masterWriteWrites (c : Config) (a : DevAddr) (n : Nat) (b : Buffer) : List Action :=
  [.csrWrite c.cwReset] ++ addressWrites c a ++ (List.range n).map (fun i => .dataWrite (b.read i))
    ++ [.csrWrite c.cwStopW]

/-- The register writes of the byte loop of a MASTER_READ that succeeds, oldest first (43 R190, R213). -/
def readLoopWrites (c : Config) (n : Nat) : List Action :=
  if n = 0 then []
  else List.replicate (n - 1) (.dataWrite 0x00) ++ [.csrWrite c.cwStopR, .dataWrite 0x00]

/-- The register writes of a MASTER_READ that succeeds, oldest first (43 R190, R214). -/
def masterReadWrites (c : Config) (a : DevAddr) (sub : Byte) (n : Nat) : List Action :=
  [.csrWrite c.cwReset] ++ addressWrites c a
    ++ [.dataWrite sub, .dataWrite (if ten a then hdrR a else addrR a),
        .csrWrite c.cwPivot, .csrWrite c.cwStartR]
    ++ readLoopWrites c n

/-- The six command words at their defaults (30_encoding R100). -/
def defaultWords (c : Config) : Bool :=
  c.cwReset = 0x09 && c.cwStartW = 0x0A && c.cwStopW = 0x08 ||| c.stop.mask
    && c.cwPivot = 0x1C ||| c.stop.mask && c.cwStartR = 0x0E && c.cwStopR = 0x0C ||| c.stop.mask

end Sys2Proof.Safety
end

