-- ==== Sys2Proof/Certificates/Slice0/Obligations.lean ====
section
/-! DEFINITION. What is claimed of the model. Each docstring names the rule of spec/ it formalises; the
trace is newest first (log 20). -/

open Sys2Proof Sys2Proof.Machine Sys2Proof.Safety

/-! Reset. -/

/-- 70 R280: block reset leaves SEQ = S_IDLE, PSEQ = P_READ, BUSY = 0; a run begins so, with no delay due and no
action made. 70 R281: a block reset of an idle ENGINE, before the HOST's next call (log 26), makes no
external action: IE, the buffer, CSR, DATA, what the PERIPHERAL was handed and all else outside the ENGINE
stay; of the registers with no value after it (R41) nothing is said. -/
def Obligations.ResetIsIdle : Prop :=
  State.reset.seq = .sIdle ∧ State.reset.pseq = .pRead ∧ State.reset.busy = false
    ∧ State.reset.setup = false ∧ State.reset.trace = []
    ∧ ∀ (s : State) (c : HostCall) (rest : List HostCall), s.setup = false → s.seq = .sIdle →
      s.calls = c :: rest → c.reset = true →
      ∃ t, step s = .next t ∧ t = { s with
        seq := .sIdle, pseq := .pRead, busy := false, calls := { c with reset := false } :: rest
        op := t.op, addr := t.addr, subaddr := t.subaddr, len := t.len, idx := t.idx, t := t.t, r := t.r
        v := t.v, ret := t.ret, abortSrc := t.abortSrc, slActions := t.slActions
        slResetHi := t.slResetHi, slResetLo := t.slResetLo, slEnableHi := t.slEnableHi
        slEnableLo := t.slEnableLo, slAddr := t.slAddr, slCallback := t.slCallback }

/-- The invariant holds after reset. Two of its fields hold there by the model's choice only, log 7: RET is 0 and
the buffers are empty, where 10_state R41 gives RET no value and leaves the buffer unspecified. -/
def Obligations.InvariantAtReset : Prop := Inv State.reset

/-! Encoding. -/

/-- Words written out in 95 sections 3 and 5 and in 30_encoding R99, R100 decode to what they stand for. -/
def Obligations.SpecWordsDecode : Prop :=
  decode 8 .cmd 0x0200141 = .ok (.masterWrite 0x050 0x00 2)
    ∧ decode 8 .cmd 0x0410142 = .ok (.masterRead 0x050 0x10 4)
    ∧ decode 8 .cmd 0x01C3556 = .ok (.masterRead 0x155 0xC3 1)
    ∧ decode 8 .wmode 0b10 = .ok .waitRdy
    ∧ decode 8 .csrMaster 0x0E = .ok .cwStartR
    ∧ decode 8 .csrMaster 0x5C = .ok (.cwPivot .bit6)
    ∧ decode 8 .hdr10 0xF4 = .ok (.hdr10W 2)
    ∧ decode 8 .hdr10 0xF7 = .ok (.hdr10R 3)
    ∧ decode 8 .addr7 0xA1 = .ok (.addr7R 0x50)
    ∧ decode 8 .statusReq 0xCF = .ok (.stReqTerminal true false 0xF)
    ∧ decode 8 .statusRdy 0x6F = .ok (.stRdyAbortNack false 0xF)

/-- Every well-formed instruction of the opcode table is read back from its word, in its place. -/
def Obligations.DecodeOfEncode : Prop :=
  ∀ (lenW : Nat) (i : Instr), i.WellFormed lenW = true → decode lenW i.slot (encode i) = .ok i

/-- A word that decodes is the word of what it decodes to, in the place it was read, and what it decodes
to is well-formed: no place gives one instruction two words. -/
def Obligations.EncodeOfDecode : Prop :=
  ∀ (lenW : Nat) (k : Slot) (w : Nat) (i : Instr), decode lenW k w = .ok i →
    encode i = w ∧ i.slot = k ∧ i.WellFormed lenW = true

/-- The classes of a snapshot are the tests of 30_encoding R112 and R113, and of 40 R138; each of the 256
values is in exactly one class of each mode. -/
def Obligations.SnapshotClasses : Prop :=
  ∀ w : Byte,
    (w &&& 0x90 = 0 ↔ ∃ n d l, classifyReq w = .stReqSpin n d l)
    ∧ (w &&& 0x10 ≠ 0 ↔ ∃ i n d l, classifyReq w = .stReqProceed i n d l)
    ∧ (w &&& 0x90 = 0x80 ↔ ∃ n d l, classifyReq w = .stReqTerminal n d l)
    ∧ (w &&& 0xA0 = 0 ↔ ∃ n q l, classifyRdy w = .stRdySpin n q l)
    ∧ (w &&& 0xE0 = 0x20 ↔ ∃ q l, classifyRdy w = .stRdyAccept q l)
    ∧ ((w &&& 0xA0 ≠ 0 ∧ w &&& 0xC0 ≠ 0) ↔
        (∃ n d q l, classifyRdy w = .stRdyAbortIdle n d q l) ∨ ∃ q l, classifyRdy w = .stRdyAbortNack q l)
    ∧ (w &&& 0x80 = 0 ↔ ∃ n d q l, classifyIdle w = .stIdleSpin n d q l)
    ∧ (w &&& 0x80 ≠ 0 ↔ ∃ n d q l, classifyIdle w = .stIdleEnd n d q l)

/-- 30_encoding R105 to R108: the four functions on ADDR, in closed form (95 check T7), and their byte is
the one the decoder's fields give. -/
def Obligations.AddressByteFunctions : Prop :=
  ∀ a : DevAddr,
    (hdrW a).toNat = 0xF0 + 2 * (a.toNat / 256) ∧ hdrW a = 0xF0 ||| ((addrHigh a).setWidth 8 <<< 1)
    ∧ hdrW a = headerByte (addrHigh a) false
    ∧ hdrR a = hdrW a ||| 0x01 ∧ hdrR a ∈ [(0xF1 : Byte), 0xF3, 0xF5, 0xF7]
    ∧ (hdrR a).toNat = 0xF1 + 2 * (a.toNat / 256) ∧ hdrR a = headerByte (addrHigh a) true
    ∧ (addrW a).toNat = 2 * (a.toNat % 128) ∧ addrW a = addressByte (addrLow a) false
    ∧ addrR a = addrW a ||| 0x01
    ∧ (addrR a).toNat = 2 * (a.toNat % 128) + 1 ∧ addrR a = addressByte (addrLow a) true

/-- 10_state R22: TEN is ADDR > 127, unsigned, and is 1 exactly when ADDR[9:7] is not 0; AP_SEL branches
on it. -/
def Obligations.TenIsRangeOfAddress : Prop :=
  ∀ a : DevAddr, (ten a = true ↔ a.toNat > 127) ∧ (ten a = true ↔ a.extractLsb' 7 3 ≠ 0)

/-- The words of the table that decodeTableWord reads, placed where the machine takes its next instruction, are
what the next step executes (the model's choice of place: log 2, log 3). -/
def Obligations.PlacedWordIsIssued : Prop :=
  ∀ (s : State) (nbits w : Nat) (i : Instr), decodeTableWord nbits w = some i →
    (s.withFetchWord nbits w).setup = false ∧ ∃ u, issued (s.withFetchWord nbits w) = some (i, u)

/-! How a step runs an instruction. -/

/-- With no delay due, a step executes the command presented (a block reset before it is a step of its own, log
26), the class of the snapshot under test, or the row the state issues (log 1). -/
def Obligations.StepRunsDecodedInstruction : Prop :=
  (∀ (s : State) (c : HostCall) (rest : List HostCall) (i : Instr), s.setup = false → s.seq = .sIdle →
      s.calls = c :: rest → c.reset = false → decode s.cfg.lenW .cmd c.word = .ok i →
      step s = exec i { s with offer := c.offer, calls := rest })
  ∧ (∀ (s : State) (m : WMode) (i : Instr), s.setup = false → waitMode s.cfg s.seq = some m →
      s.pseq = .pTest → decode s.cfg.lenW m.statusSlot s.t.toNat = .ok i → step s = exec i s)
  ∧ (∀ (s : State) (m : WMode), s.setup = false → waitMode s.cfg s.seq = some m →
      s.pseq ≠ .pTest → step s = exec m.instr s)
  ∧ (∀ (s : State) (i : Instr), s.setup = false → s.seq = .rCheck →
      decode s.cfg.lenW .statusRdy s.t.toNat = .ok i → step s = exec i s)
  ∧ (∀ (s : State) (i : Instr), s.setup = false → s.seq ≠ .sIdle → issue s = some i → step s = exec i s)

/-- 10_state R24, R26: an idle ENGINE to which nothing is presented stays as it is. A word of more bits than
F-CMD carries a length above 2^LEN_W - 1, which no command has (30_encoding R91, 92 D4); that it is refused
is the model's choice, log 22. -/
def Obligations.IdleWithoutCommand : Prop :=
  (∀ s : State, s.setup = false → s.seq = .sIdle → s.calls = [] → step s = .next s)
  ∧ (∀ (s : State) (c : HostCall) (rest : List HostCall), s.setup = false → s.seq = .sIdle →
      s.calls = c :: rest → c.reset = false → 2 ^ (20 + s.cfg.lenW) ≤ c.word →
      step s = .refused .commandTooWide)

/-- 00_scope R6: a step makes at most one external action. -/
def Obligations.OneActionPerStep : Prop :=
  ∀ s t : State, step s = .next t → t.trace = s.trace ∨ ∃ a, t.trace = a :: s.trace

/-- 20_memory R73: the step after a CSR or DATA write is Delay(T_SETUP), the step after a CSR read is
Delay(T_POLL). For the writes of the slave path this is the model's choice, log 15: 44 R231 and R234 leave
open whether delays follow there. -/
def Obligations.DelayFollowsAccess : Prop :=
  ∀ s t : State, step s = .next t →
    (∀ w, t.trace = .csrWrite w :: s.trace ∨ t.trace = .dataWrite w :: s.trace →
      ∃ u, step t = .next u ∧ u.trace = .delay t.cfg.tSetup :: t.trace)
    ∧ (∀ v, t.trace = .csrRead v :: s.trace →
      ∃ u, step t = .next u ∧ u.trace = .delay t.cfg.tPoll :: t.trace)

/-! Commands. -/

/-- 10_state R26: acceptance of the four commands, and 30_encoding R115. The buffer is taken as log 25 and log
30 say. REGISTER_SLAVE is accepted when the model executes it, and what is open of it is latched: the
model's choices, log 13, log 14, log 31. -/
def Obligations.CommandsAccepted : Prop :=
  ∀ (s : State) (a : DevAddr) (sub : Byte) (n : Nat), s.seq = .sIdle →
    (n ≤ s.offer.buffer.size →
      exec (.masterWrite a sub n) s = .next { s with
        op := 1, addr := a, subaddr := sub, len := n, busy := true, seq := .tIrqOff, buf := s.offer.buffer }
      ∧ exec (.masterRead a sub n) s = .next { s with
        op := 2, addr := a, subaddr := sub, len := n, busy := true, seq := .tIrqOff, buf := s.offer.buffer })
    ∧ (s.cfg.slaveExecuted = true → exec (.registerSlave a sub n) s = .next { s with
        op := 3, busy := true, seq := .slPass, slAddr := a, slCallback := s.offer.callback
        slaveCalls := s.slaveCalls + 1
        slActions := slavePlan (Config.slaveBefore s.slaveCalls a) (Config.slaveAfter s.slaveCalls a)
        slResetHi := Config.slaveResetHi s.slaveCalls a, slResetLo := Config.slaveResetLo s.slaveCalls a
        slEnableHi := Config.slaveEnableHi s.slaveCalls a, slEnableLo := Config.slaveEnableLo s.slaveCalls a })
    ∧ exec (.noCommand a sub n) s = .next s

/-- 44 R232, 93 U8: REGISTER_SLAVE is refused by name, unless the model's switch (log 13) is on. -/
def Obligations.SlaveRefused : Prop :=
  ∀ (s : State) (a : DevAddr) (sub : Byte) (n : Nat), s.seq = .sIdle → s.cfg.slaveExecuted = false →
    exec (.registerSlave a sub n) s = .refused .registerSlave

/-- 10_state R26: "When SEQ != S_IDLE a presented command is ignored: no register changes"; 60 R252. -/
def Obligations.CommandIgnoredWhileBusy : Prop :=
  ∀ (s : State) (a : DevAddr) (sub : Byte) (n : Nat), s.seq ≠ .sIdle →
    exec (.masterWrite a sub n) s = .next s ∧ exec (.masterRead a sub n) s = .next s
    ∧ exec (.registerSlave a sub n) s = .next s ∧ exec (.noCommand a sub n) s = .next s

/-- 70 R286: a command whose buffer is shorter than length is refused, and 20_memory R62. -/
def Obligations.ShortBufferRefused : Prop :=
  ∀ (s : State) (a : DevAddr) (sub : Byte) (n : Nat), s.seq = .sIdle → s.offer.buffer.size < n →
    exec (.masterWrite a sub n) s = .refused .bufferShorterThanLength
    ∧ exec (.masterRead a sub n) s = .refused .bufferShorterThanLength

/-- 44 R231: from its acceptance REGISTER_SLAVE writes the reset word, attaches the callback, writes the
enable word, and ends with BUSY = 0 in S_IDLE; it writes neither IE nor RET, reads nothing and touches
no buffer. That it is executed, with open bits, is log 13; the address is conveyed before or after the first
word by any list of register writes, none among them, log 14; the delays are log 15, the steps log 24. -/
def Obligations.SlavePassRun : Prop :=
  ∀ (s : State) (before after : List RegWrite), s.setup = false → s.seq = .slPass →
    s.slActions = slavePlan before after →
    ∃ t, steps (2 * (before.length + after.length) + 5) s = .next t
      ∧ t = { s with
          busy := false
          seq := .sIdle
          slActions := []
          csrWrite := slaveEnableByte (namedMid s.cfg.stop s.slEnableHi) s.slEnableLo
          dataWrite := t.dataWrite
          slaveAddr := some s.slAddr
          attached := some s.slCallback
          trace := t.trace }
      ∧ noDelays t.trace = (slavePassActions s before after).reverse ++ noDelays s.trace

/-! The wait primitive. -/

/-- 40 R132, R133, R134: the three steps of a poll, in each of the four modes with its mask. -/
def Obligations.PollSteps : Prop :=
  ∀ (s : State) (i : Instr) (m : Byte),
    (i, m) ∈ [(Instr.waitReq, (0x90 : Byte)), (.waitAny, 0x90), (.waitRdy, 0xA0), (.waitIdle, 0x80)] →
    (s.pseq = .pRead → exec i s = .next { s with
        t := s.csrView, csrAnswers := s.csrAnswers.tail, csrReads := s.csrReads + 1
        trace := .csrRead s.csrView :: s.trace, pseq := .pDly })
    ∧ (s.pseq = .pDly → exec i s = .next { s with trace := .delay s.cfg.tPoll :: s.trace, pseq := .pTest })
    ∧ (s.pseq = .pTest → s.t &&& m = 0 → exec i s = .next { s with pseq := .pRead })

/-- 40 R135 and its callers (60 R242): WAIT_REQ ends with R = 0 if DATA_REQ is set, and goes on; else
with R = T, and the caller aborts with R. -/
def Obligations.WaitReqExit : Prop :=
  ∀ s : State, s.pseq = .pTest → s.t &&& 0x90 ≠ 0 →
    (s.t &&& 0x10 ≠ 0 → exec .waitReq s = .next (({ s with r := 0 }).goto (afterWait s.cfg s.seq)))
    ∧ (s.t &&& 0x10 = 0 → exec .waitReq s = .next { s with r := s.t, abortSrc := .r, seq := .tAbort })

/-- 40 R136, R137, R138: the unclassified waits end with no result. -/
def Obligations.UnclassifiedWaitExit : Prop :=
  ∀ s : State, s.pseq = .pTest →
    (s.t &&& 0x90 ≠ 0 → exec .waitAny s = .next (s.goto (afterWait s.cfg s.seq)))
    ∧ (s.t &&& 0xA0 ≠ 0 → exec .waitRdy s = .next (s.goto (afterWait s.cfg s.seq)))
    ∧ (s.t &&& 0x80 ≠ 0 → exec .waitIdle s = .next (s.goto (afterWait s.cfg s.seq)))

/-- In the test step of a wait, the class of the snapshot does what the mode does. -/
def Obligations.ClassAgreesWithMode : Prop :=
  ∀ (s : State) (m : WMode), waitMode s.cfg s.seq = some m → s.pseq = .pTest →
    exec (m.statusClass s.t) s = exec m.instr s

/-- 40 R139: R = 0 exactly when the ending snapshot has DATA_REQ set; otherwise R = T and IDLE is set. -/
def Obligations.WaitReqResult : Prop :=
  ∀ s t : State, s.pseq = .pTest → s.t &&& 0x90 ≠ 0 → exec .waitReq s = .next t →
    (t.r = 0 ↔ s.t &&& 0x10 ≠ 0) ∧ (t.r ≠ 0 → t.r = s.t ∧ s.t &&& 0x80 ≠ 0)

/-- 40 R140: a snapshot with NO_ACK set and no awaited flag keeps every wait spinning. -/
def Obligations.NackAloneSpins : Prop :=
  ∀ (s : State) (m : WMode), s.setup = false → waitMode s.cfg s.seq = some m → s.pseq = .pTest →
    s.t &&& 0x40 ≠ 0 → s.t &&& m.mask = 0 → step s = .next { s with pseq := .pRead }

/-- 41 R155, 42 R173, 43 R191, R193, R199: the classified waits and where each goes. -/
def Obligations.ClassifiedWaitSuccessors : Prop :=
  ∀ (s : State) (q q' : Seq),
    (q, q') ∈ [(Seq.ap10Wait, Seq.ap10Low), (.wWait, .wLoad), (.rWait1, .rSub), (.rWait2, .rReaddr),
      (.rWait3, .rInit)] →
    s.setup = false → s.seq = q → s.pseq = .pTest →
    (s.t &&& 0x10 ≠ 0 → step s = .next { s with r := 0, seq := q' })
    ∧ (s.t &&& 0x90 = 0x80 → step s = .next { s with r := s.t, abortSrc := .r, seq := .tAbort })

/-- 42 R177, R179, 43 R197, R202, R209: the unclassified waits end on any bit of their mask and go on,
whatever NO_ACK says. Of the two switches P_FINAL_WAIT_ABORTS is at its default for W_FWAIT, and
P_LAST_STOP_BEFORE_POLL for R_POLL; the other three states depend on neither. -/
def Obligations.UnclassifiedWaitSuccessors : Prop :=
  ∀ (s : State) (q q' : Seq) (m : Byte),
    (q, m, q') ∈ [(Seq.wFwait, (0x90 : Byte), Seq.wStop), (.wIdle, 0x80, .tOk), (.rPidle, 0x80, .rStart),
      (.rPoll, 0xA0, .rLstop), (.rIdle, 0x80, .tOk)] →
    (q = .wFwait → s.cfg.finalWaitAborts = false) → (q = .rPoll → s.cfg.lastStopBeforePoll = false) →
    s.setup = false → s.seq = q → s.pseq = .pTest → s.t &&& m ≠ 0 → step s = .next { s with seq := q' }

/-- 42 R177 with P_FINAL_WAIT_ABORTS = true: W_FWAIT is classified. 43 R201, R202, R203 with
P_LAST_STOP_BEFORE_POLL = true: R_TEST goes to R_LSTOP, R_LSTOP (its STOP written when the byte is the last)
to R_POLL, R_POLL to R_CHECK. -/
def Obligations.SwitchedWaitSuccessors : Prop :=
  (∀ s : State, s.cfg.finalWaitAborts = true → s.setup = false → s.seq = .wFwait → s.pseq = .pTest →
    (s.t &&& 0x10 ≠ 0 → step s = .next { s with r := 0, seq := .wStop })
    ∧ (s.t &&& 0x90 = 0x80 → step s = .next { s with r := s.t, abortSrc := .r, seq := .tAbort }))
  ∧ (∀ s : State, s.cfg.lastStopBeforePoll = true → s.setup = false →
    (s.seq = .rTest → step s = .next (s.goto (if s.idx = s.len then .rIdle else .rLstop)))
    ∧ (s.seq = .rLstop → s.idx + 1 = s.len →
        steps 2 s = .next { wroteCsr s s.cfg.cwStopR with seq := .rPoll, pseq := .pRead })
    ∧ (s.seq = .rLstop → s.idx + 1 ≠ s.len → step s = .next { s with seq := .rPoll, pseq := .pRead })
    ∧ (s.seq = .rPoll → s.pseq = .pTest → s.t &&& 0xA0 ≠ 0 → step s = .next { s with seq := .rCheck }))

/-- 40 R141, 60 R243, 70 R296: while no answer has an awaited flag, a wait goes on polling; SEQ stays, BUSY
and IE stay, RET is not written, no register is written, nothing faults. -/
def Obligations.StuckBusSpins : Prop :=
  ∀ (s : State) (m : WMode) (as rest : List Byte), s.setup = false → waitMode s.cfg s.seq = some m →
    s.pseq = .pRead → s.csrAnswers = as ++ rest → (∀ a ∈ as, a &&& m.mask = 0) →
    ∃ t, steps (3 * as.length) s = .next t ∧ t.seq = s.seq ∧ t.pseq = .pRead ∧ t.csrAnswers = rest
      ∧ t.csrReads = s.csrReads + as.length ∧ t.busy = s.busy ∧ t.ie = s.ie ∧ t.ret = s.ret
      ∧ t.buf = s.buf ∧ regWrites t.trace = regWrites s.trace

/-- 70 R306: a poll answered with a bit of its mask leaves the wait after its three steps. -/
def Obligations.AnsweredWaitEnds : Prop :=
  ∀ (s : State) (m : WMode), s.setup = false → waitMode s.cfg s.seq = some m → s.pseq = .pRead →
    s.csrView &&& m.mask ≠ 0 →
    ∃ t, steps 3 s = .next t ∧ t.t = s.csrView ∧ t.seq ≠ s.seq
      ∧ (t.seq = afterWait s.cfg s.seq ∨ (m = .req ∧ t.seq = .tAbort ∧ t.abortStatus = s.csrView))

/-! The rows of the opcode table that are classes of a snapshot. -/

/-- 30_encoding R112, R113, 40 R138: the SPIN classes poll again. -/
def Obligations.SpinClasses : Prop :=
  ∀ (s : State) (n d q : Bool) (l : BitVec 4),
    exec (.stReqSpin n d l) s = .next { s with pseq := .pRead }
    ∧ exec (.stIdleSpin n d q l) s = .next { s with pseq := .pRead }
    ∧ (s.seq ≠ .rCheck → exec (.stRdySpin n q l) s = .next { s with pseq := .pRead })

/-- 30_encoding R112: what PROCEED and TERMINAL do in WAIT_REQ and in WAIT_ANY. -/
def Obligations.RequestClasses : Prop :=
  ∀ (s : State) (i n d : Bool) (l : BitVec 4),
    (waitMode s.cfg s.seq = some .req →
      exec (.stReqProceed i n d l) s = .next (({ s with r := 0 }).goto (afterWait s.cfg s.seq))
      ∧ exec (.stReqTerminal n d l) s = .next { s with r := s.t, abortSrc := .r, seq := .tAbort })
    ∧ (waitMode s.cfg s.seq = some .any →
      exec (.stReqProceed i n d l) s = .next (s.goto .wStop)
      ∧ exec (.stReqTerminal n d l) s = .next (s.goto .wStop))

/-- 30_encoding R113: ACCEPT and the two ABORT classes end WAIT_RDY; in R_CHECK the first takes the byte
and the others abort with T. 40 R138: IDLE ends WAIT_IDLE. -/
def Obligations.ReadyAndIdleClasses : Prop :=
  ∀ (s : State) (n d q : Bool) (l : BitVec 4),
    (s.seq = .rPoll →
      exec (.stRdyAccept q l) s = .next (s.goto (afterWait s.cfg .rPoll))
      ∧ exec (.stRdyAbortIdle n d q l) s = .next (s.goto (afterWait s.cfg .rPoll))
      ∧ exec (.stRdyAbortNack q l) s = .next (s.goto (afterWait s.cfg .rPoll)))
    ∧ (s.seq = .rCheck →
      exec (.stRdyAccept q l) s = .next { s with seq := .rFetch }
      ∧ exec (.stRdyAbortIdle n d q l) s = .next { s with abortSrc := .t, seq := .tAbort }
      ∧ exec (.stRdyAbortNack q l) s = .next { s with abortSrc := .t, seq := .tAbort })
    ∧ exec (.stIdleEnd n d q l) s = .next (s.goto (afterWait s.cfg s.seq))

/-- 43 R204, 60 R248: R_CHECK aborts with T when IDLE or NO_ACK is set, even if DATA_READY is set, and the
byte is not fetched; else it goes on to R_FETCH. -/
def Obligations.CheckSnapshotOfRead : Prop :=
  ∀ s : State, s.setup = false → s.seq = .rCheck →
    (s.t &&& 0xC0 ≠ 0 → step s = .next { s with abortSrc := .t, seq := .tAbort })
    ∧ (s.t &&& 0xC0 = 0 → step s = .next { s with seq := .rFetch })

/-! The words and bytes written. -/

/-- 30_encoding R100, 20_memory R67: each command word is one CSR write of the configured word, after which a
delay is due; nothing else changes. At the defaults the word is the table's (log 11). -/
def Obligations.CommandWordsWritten : Prop :=
  ∀ (s : State) (i : Instr) (w : Byte) (p : StopFlag),
    (i, w) ∈ [(Instr.cwReset, s.cfg.cwReset), (.cwStartW, s.cfg.cwStartW), (.cwStartR, s.cfg.cwStartR),
      (.cwStopW p, s.cfg.cwStopW), (.cwPivot p, s.cfg.cwPivot), (.cwStopR p, s.cfg.cwStopR)] →
    exec i s = .next { s with csrWrite := w, setup := true, trace := .csrWrite w :: s.trace }
    ∧ (defaultWords s.cfg = true → s.cfg.stop = p → w.toNat = encode i)

/-- 30_encoding R101, R116, 93 U3: with the six words at their defaults, every word any step writes to the CSR
has the unnamed bit that is not CSR_STOP clear; a word of a master transaction has MASTER set and IRQ_ENABLE
clear, SYNC_RESET in CW_RESET only, READ from the pivot on only, and CSR_STOP in the three STOP words only. -/
def Obligations.CommandWordComposition : Prop :=
  ∀ (s t : State) (w : Byte), defaultWords s.cfg = true → step s = .next t →
    t.trace = .csrWrite w :: s.trace →
    w &&& 0x60 &&& ~~~s.cfg.stop.mask = 0
    ∧ (s.seq ≠ .slPass →
      w &&& 0x88 = 0x08
      ∧ (w &&& 0x01 ≠ 0 ↔ s.seq = .tReset)
      ∧ (w &&& 0x04 ≠ 0 ↔ s.seq ∈ [Seq.rPivot, .rStart, .rLstop])
      ∧ (w &&& s.cfg.stop.mask ≠ 0 ↔ s.seq ∈ [Seq.wStop, .rPivot, .rLstop]))

/-- 30_encoding R103, 44 R231: the two words of the slave path. The model's choices: that they are executed
(44 R232 lets a model refuse), log 13; that the response address is recorded with the first, log 14, log 31;
that a delay is due after them (44 R234 leaves it open), log 15. -/
def Obligations.SlaveWordsWritten : Prop :=
  ∀ (s : State) (hi : BitVec 4) (lo : BitVec 2) (hi' lo' : BitVec 3) (w w' : Byte),
    w.toNat = encode (.cwSlaveReset hi lo) → w'.toNat = encode (.cwSlaveEnable hi' lo') →
    exec (.cwSlaveReset hi lo) s = .next { s with
      csrWrite := w, setup := true, trace := .csrWrite w :: s.trace, slaveAddr := some s.slAddr }
    ∧ exec (.cwSlaveEnable hi' lo') s = .next { s with
      csrWrite := w', setup := true, trace := .csrWrite w' :: s.trace }
    ∧ w &&& 0x09 = 0x01 ∧ w' &&& 0x88 = 0x80

/-- 30_encoding R105 to R108, R110, R111, 20_memory R69: each byte is one DATA write, after which a delay
is due; nothing else changes. -/
def Obligations.DataBytesWritten : Prop :=
  ∀ (s : State) (i : Instr) (b : Byte) (h : BitVec 2) (a : BitVec 7) (x : Byte),
    (i, b) ∈ [(Instr.hdr10W h, 0xF0 ||| (h.setWidth 8 <<< 1)), (.hdr10R h, 0xF1 ||| (h.setWidth 8 <<< 1)),
      (.addr7W a, a.setWidth 8 <<< 1), (.addr7R a, (a.setWidth 8 <<< 1) ||| 0x01), (.subaddrByte x, x),
      (.wdataByte x, x), (.dummyByte, 0x00)] →
    exec i s = .next { s with dataWrite := b, setup := true, trace := .dataWrite b :: s.trace }
    ∧ b.toNat = encode i

/-- 41 R151, R153, R154, R156, R157, R158, R159: the register writes of the prologue and of the address
phase, each with its delay and its successor. -/
def Obligations.AddressPhaseStates : Prop :=
  ∀ s : State, s.setup = false →
    (s.seq = .tReset → steps 2 s = .next ((wroteCsr s s.cfg.cwReset).goto .apSel))
    ∧ (s.seq = .ap10Hdr → steps 2 s = .next ((wroteData s (hdrW s.addr)).goto .ap10Start))
    ∧ (s.seq = .ap10Start → steps 2 s = .next ((wroteCsr s s.cfg.cwStartW).goto .ap10Wait))
    ∧ (s.seq = .ap10Low →
        steps 2 s = .next ((wroteData s (addrW s.addr)).goto (if s.op = 1 then .wInit else .rWait1)))
    ∧ (s.seq = .ap7Addr → steps 2 s = .next ((wroteData s (addrW s.addr)).goto .ap7Start))
    ∧ (s.seq = .ap7Start →
        steps 2 s = .next ((wroteCsr s s.cfg.cwStartW).goto (if s.op = 1 then .wInit else .rWait1)))

/-- 42 R175, R178, 43 R192, R194, R196, R198, R203, R207: the register writes of the two bodies. -/
def Obligations.BodyWriteStates : Prop :=
  ∀ s : State, s.setup = false →
    (s.seq = .wByte → steps 2 s = .next ((wroteData s s.v).goto .wInc))
    ∧ (s.seq = .wStop → steps 2 s = .next ((wroteCsr s s.cfg.cwStopW).goto .wIdle))
    ∧ (s.seq = .rSub → steps 2 s = .next ((wroteData s s.subaddr).goto .rWait2))
    ∧ (s.seq = .rReaddr → steps 2 s = .next
        ((wroteData s (if s.addr.toNat > 127 then hdrR s.addr else addrR s.addr)).goto .rPivot))
    ∧ (s.seq = .rPivot → steps 2 s = .next ((wroteCsr s s.cfg.cwPivot).goto .rPidle))
    ∧ (s.seq = .rStart → steps 2 s = .next ((wroteCsr s s.cfg.cwStartR).goto .rWait3))
    ∧ (s.seq = .rLstop → s.idx + 1 = s.len → steps 2 s = .next
        ((wroteCsr s s.cfg.cwStopR).goto
          (if s.cfg.lastStopBeforePoll then .rPoll else .rCheck)))
    ∧ (s.seq = .rLstop → s.idx + 1 ≠ s.len →
        step s = .next (s.goto (if s.cfg.lastStopBeforePoll then .rPoll else .rCheck)))
    ∧ (s.seq = .rDummy → steps 2 s = .next ((wroteData s 0x00).goto .rInc))

/-! The sequencer's own steps. -/

/-- 41 R150, R152: T_IRQ_OFF and AP_SEL. -/
def Obligations.PrologueSteps : Prop :=
  ∀ s : State, s.setup = false →
    (s.seq = .tIrqOff → step s = .next { s with ie := false, trace := .ieWrite false :: s.trace, seq := .tReset })
    ∧ (s.seq = .apSel →
        step s = .next { s with seq := if s.addr.toNat > 127 then .ap10Hdr else .ap7Addr })

/-- 42 R171, R172, R176, 43 R200, R201, R208: the counters and tests of the byte loops. -/
def Obligations.LoopCounterSteps : Prop :=
  ∀ s : State, s.setup = false →
    (s.seq = .wInit → step s = .next { s with idx := 0, seq := .wTest })
    ∧ (s.seq = .wTest → step s = .next (s.goto (if s.idx = s.len then .wFwait else .wWait)))
    ∧ (s.seq = .wInc → step s = .next { s with idx := s.idx + 1, seq := .wTest })
    ∧ (s.seq = .rInit → step s = .next { s with idx := 0, seq := .rTest })
    ∧ (s.seq = .rTest → step s = .next (s.goto
        (if s.idx = s.len then .rIdle else if s.cfg.lastStopBeforePoll then .rLstop else .rPoll)))
    ∧ (s.seq = .rInc → step s = .next { s with idx := s.idx + 1, seq := .rTest })

/-- 42 R176, 43 R208: IDX <- IDX + 1 and on to the test, with no external action; in the states of a run
IDX < LEN before it, so that the increment stays within LEN_W bits: no wrap-around. -/
def Obligations.IncrementDoesNotWrap : Prop :=
  ∀ s : State, Inv s → s.setup = false → s.seq = .wInc ∨ s.seq = .rInc →
    step s = .next { s with idx := s.idx + 1, seq := if s.seq = .wInc then .wTest else .rTest }
      ∧ s.idx < s.len ∧ s.idx + 1 ≤ s.len ∧ s.len < 2 ^ s.cfg.lenW

/-- 42 R174, 43 R205: W_LOAD latches the buffer byte at IDX and leaves the buffer; R_FETCH latches the byte
the PERIPHERAL answers. -/
def Obligations.LoadAndFetch : Prop :=
  ∀ s : State, s.setup = false →
    (s.seq = .wLoad → s.idx < s.len → s.idx < s.buf.size → step s = .next { s with
        v := s.buf.read s.idx, trace := .bufRead s.idx (s.buf.read s.idx) :: s.trace, seq := .wByte })
    ∧ (s.seq = .rFetch → step s = .next { s with
        v := s.dataView, dataAnswers := s.dataAnswers.tail, dataReads := s.dataReads + 1
        trace := .dataRead s.dataView :: s.trace, seq := .rStore })

/-- 43 R206, 20_memory R71: R_STORE stores V at IDX; every other byte of the buffer, and every other
register, keeps its value. -/
def Obligations.StoreWritesOneByte : Prop :=
  ∀ s : State, s.setup = false → s.seq = .rStore → s.idx < s.len → s.idx < s.buf.size →
    ∃ b, step s = .next { s with
        buf := b, trace := .bufWrite s.idx s.v :: s.trace, seq := .rDummy }
      ∧ b.read s.idx = s.v ∧ (∀ j, j ≠ s.idx → b.read j = s.buf.read j)
      ∧ b.size = s.buf.size ∧ (s.buf.wf = true → b.wf = true)

/-- 60 R245, R246: T_OK and T_ABORT, the entry sequence of the abort. -/
def Obligations.EpilogueSteps : Prop :=
  ∀ s : State, s.setup = false →
    (s.seq = .tOk → step s = .next { s with
        ie := true, ret := 0x00, busy := false, seq := .sIdle, trace := .ieWrite true :: s.trace })
    ∧ (s.seq = .tAbort → s.abortSrc = .r → step s = .next { s with
        ie := true, ret := s.r, busy := false, seq := .sIdle, trace := .ieWrite true :: s.trace })
    ∧ (s.seq = .tAbort → s.abortSrc = .t → step s = .next { s with
        ie := true, ret := s.t, busy := false, seq := .sIdle, trace := .ieWrite true :: s.trace })

/-! Rules of the whole machine. -/

/-- The invariant is kept by every step. For the step of a block reset its field ret_class rests on RET = 0, the
model's choice (log 7): R41 gives RET no value there. -/
def Obligations.StepKeepsInvariant : Prop := ∀ s t : State, Inv s → step s = .next t → Inv t

/-- 20_memory R62, 10_state R23: no access outside the buffer is ever made; nothing faults. -/
def Obligations.InvariantIsSafe : Prop := ∀ s : State, Inv s → SafeStep s

/-- 60 R242: the states that can raise an abort, the condition in each, and the value; no other state can.
In the states of a run, the command and the address the table gives each state. -/
def Obligations.OnlyListedStatesAbort : Prop :=
  ∀ s t : State, step s = .next t → s.seq ≠ .tAbort → t.seq = .tAbort →
    s.setup = false ∧
    ((s.seq ∈ [Seq.ap10Wait, .wWait, .rWait1, .rWait2, .rWait3]
        ∨ (s.seq = .wFwait ∧ s.cfg.finalWaitAborts = true))
      ∧ s.pseq = .pTest ∧ s.t &&& 0x10 = 0 ∧ s.t &&& 0x80 ≠ 0 ∧ t.r = s.t ∧ t.abortStatus = s.t
    ∨ s.seq = .rCheck ∧ s.t &&& 0xC0 ≠ 0 ∧ t.abortStatus = s.t)
    ∧ (Inv s → (s.seq = .ap10Wait → s.addr.toNat > 127) ∧ (s.seq = .wWait ∨ s.seq = .wFwait → s.op = 1)
      ∧ (s.seq ∈ [Seq.rWait1, .rWait2, .rWait3, .rCheck] → s.op = 2)
      ∧ (s.seq = .rCheck → s.t &&& 0xA0 ≠ 0))

/-- 60 R254: T_IRQ_OFF is the only state that clears IE; T_OK and T_ABORT are the only states that set it. -/
def Obligations.OnlyBracketWritesIe : Prop :=
  ∀ s t : State, step s = .next t →
    (t.ie ≠ s.ie → t.trace = .ieWrite t.ie :: s.trace)
    ∧ (t.trace = .ieWrite false :: s.trace → s.seq = .tIrqOff)
    ∧ (t.trace = .ieWrite true :: s.trace → s.seq = .tOk ∨ s.seq = .tAbort)

/-- 10_state R28, R37, 20_memory R66, R68: RET is written by the epilogue only (and has no value after a block
reset, R41), the buffer by R_STORE only,
the CSR is read by P_READ only, the DATA register by R_FETCH only; the parameters never change. -/
def Obligations.WritersAndReaders : Prop :=
  ∀ s t : State, step s = .next t →
    t.cfg = s.cfg
    ∧ (t.ret ≠ s.ret → s.seq = .tOk ∨ s.seq = .tAbort
        ∨ s.seq = .sIdle ∧ ∃ c rest, s.calls = c :: rest ∧ c.reset = true)
    ∧ (t.buf ≠ s.buf → s.seq = .rStore ∨ s.seq = .sIdle)
    ∧ (t.csrReads ≠ s.csrReads → isWaiting s.cfg s.seq = true ∧ s.pseq = .pRead)
    ∧ (t.dataReads ≠ s.dataReads → s.seq = .rFetch)

/-- The frame of the opcode table's rows: none writes IE, RET, IDX, V, the buffer's bytes (a command may name
another buffer), the DATA answers or the parameters. -/
def Obligations.InstructionFrame : Prop :=
  ∀ (i : Instr) (s t : State), exec i s = .next t →
    t.cfg = s.cfg ∧ t.ie = s.ie ∧ t.ret = s.ret ∧ t.idx = s.idx ∧ t.v = s.v
    ∧ t.dataAnswers = s.dataAnswers ∧ t.dataReads = s.dataReads ∧ t.attached = s.attached
    ∧ t.calls = s.calls ∧ t.offer = s.offer
    ∧ (i.slot ≠ .cmd → t.op = s.op ∧ t.addr = s.addr ∧ t.subaddr = s.subaddr ∧ t.len = s.len
        ∧ t.busy = s.busy ∧ ∀ j, t.buf.read j = s.buf.read j)
    ∧ (i.slot = .cmd → t.buf = s.buf ∨ t.buf = s.offer.buffer)

/-- 10_state R28: after the end of a transaction RET = 0 if and only if it took the T_OK path; 30_encoding
R114: a nonzero RET has IDLE or NO_ACK set. -/
def Obligations.RetTellsThePath : Prop :=
  ∀ s t : State, Inv s → step s = .next t → s.busy = true → t.busy = false → s.seq ≠ .slPass →
    (t.ret = 0 ↔ s.seq = .tOk) ∧ (t.ret ≠ 0 → t.ret &&& 0xC0 ≠ 0) ∧ t.ie = true

/-- 30_encoding R117: no test reads bits 3 to 0 of T; two snapshots that differ only there take the same
path. -/
def Obligations.LowNibbleIsNotTested : Prop :=
  ∀ (s u : State) (x : Byte), x &&& 0xF0 = s.t &&& 0xF0 → step s = .next u →
    ∃ u', step { s with t := x } = .next u' ∧ u'.seq = u.seq ∧ u'.pseq = u.pseq ∧ u'.trace = u.trace
      ∧ u'.busy = u.busy ∧ u'.idx = u.idx ∧ u'.buf = u.buf

/-- 70 R300: ADDR[7] is never sent: within a transaction, runs that differ only in ADDR[7] of a 10-bit
address stay equal but for it, trace included. -/
def Obligations.AddressBitSevenUnseen : Prop :=
  ∀ (k : Nat) (s t : State) (a : DevAddr), s.addr.toNat > 127 → a.toNat > 127 →
    a &&& 0x37F = s.addr &&& 0x37F →
    (∀ j, j < k → ∃ u, steps j s = .next u ∧ u.seq ≠ .sIdle) → steps k s = .next t →
    steps k { s with addr := a } = .next { t with addr := a }

/-! Transactions. -/

/-- 70 R306: a transaction ends, given that the PERIPHERAL answers. Without that premise 60 R243 holds. -/
def Obligations.TransactionEnds : Prop :=
  ∀ s : State, Inv s → inMaster s.seq = true → PeripheralAnswers s →
    ∃ k t, steps k s = .next t ∧ t.seq = .sIdle ∧ t.busy = false ∧ t.ie = true

/-- 41 R160 (f), with the prologue: the whole 7-bit address phase. -/
def Obligations.SevenBitAddressPhase : Prop :=
  ∀ s : State, s.setup = false → s.seq = .tIrqOff → s.addr.toNat ≤ 127 →
    steps 8 s = .next (({ s with
        ie := false, csrWrite := s.cfg.cwStartW, dataWrite := addrW s.addr
        trace := ([.delay s.cfg.tSetup, .csrWrite s.cfg.cwStartW, .delay s.cfg.tSetup,
          .dataWrite (addrW s.addr), .delay s.cfg.tSetup, .csrWrite s.cfg.cwReset, .ieWrite false] : List Action)
          ++ s.trace }).goto
        (if s.op = 1 then .wInit else .rWait1))

/-- 41 R160 (f), with the prologue: the 10-bit address phase whose one wait is answered with DATA_REQ. -/
def Obligations.TenBitAddressPhase : Prop :=
  ∀ s : State, s.setup = false → s.seq = .tIrqOff → s.addr.toNat > 127 → s.csrView &&& 0x10 ≠ 0 →
    steps 13 s = .next (({ s with
        ie := false, csrWrite := s.cfg.cwStartW, dataWrite := addrW s.addr, pseq := .pTest
        t := s.csrView, r := 0, csrAnswers := s.csrAnswers.tail, csrReads := s.csrReads + 1
        trace := ([.delay s.cfg.tSetup, .dataWrite (addrW s.addr), .delay s.cfg.tPoll, .csrRead s.csrView,
          .delay s.cfg.tSetup, .csrWrite s.cfg.cwStartW, .delay s.cfg.tSetup, .dataWrite (hdrW s.addr),
          .delay s.cfg.tSetup, .csrWrite s.cfg.cwReset, .ieWrite false] : List Action)
          ++ s.trace }).goto
        (if s.op = 1 then .wInit else .rWait1))

/-- 43 R203, R216, 70 R302: an abort on the final byte follows the STOP word, in both readings of 43 R203; RET
is the snapshot and the buffer is as it was. At the default of P_LAST_STOP_BEFORE_POLL the snapshot is in T
when the word is written; with the switch on it is the answer to the poll after it. -/
def Obligations.FinalByteAbortFollowsStop : Prop :=
  ∀ (s : State) (x : Byte), s.setup = false → s.seq = .rLstop → s.idx + 1 = s.len → x &&& 0xC0 ≠ 0 →
    (s.cfg.lastStopBeforePoll = false ∧ x = s.t
      ∨ s.cfg.lastStopBeforePoll = true ∧ x = s.csrView ∧ x &&& 0xA0 ≠ 0) →
    ∃ t, steps (if s.cfg.lastStopBeforePoll then 7 else 4) s = .next t ∧ t.seq = .sIdle ∧ t.ret = x
      ∧ t.ie = true ∧ t.busy = false ∧ t.buf = s.buf ∧ t.dataReads = s.dataReads
      ∧ t.csrReads = s.csrReads + (if s.cfg.lastStopBeforePoll then 1 else 0)
      ∧ regWrites t.trace = .csrWrite s.cfg.cwStopR :: regWrites s.trace

/-- 42 R170, R183, 95 E2: a MASTER_WRITE whose classified waits and W_FWAIT are answered with DATA_REQ set
and whose last wait is answered with IDLE set ends with RET = 0, IE = 1 and the buffer as it was, after
exactly those reads; its register writes are a function of ADDR, LEN and the buffer. A block reset before the
call changes none of this. -/
def Obligations.MasterWriteSucceeds : Prop :=
  ∀ (s : State) (c : HostCall) (rest : List HostCall) (a : DevAddr) (sub : Byte) (n : Nat)
    (answers more : List Byte) (z : Byte),
    s.setup = false → s.seq = .sIdle → s.calls = c :: rest →
    decodeCommand s.cfg.lenW c.word = .ok (.masterWrite a sub n) → n ≤ c.offer.buffer.size →
    (∀ x ∈ answers, x &&& 0x10 ≠ 0) → answers.length = (if ten a then 1 else 0) + n + 1 →
    z &&& 0x80 ≠ 0 → s.csrAnswers = answers ++ z :: more →
    ∃ k t, steps k s = .next t ∧ t.seq = .sIdle ∧ t.busy = false ∧ t.ret = 0 ∧ t.ie = true
      ∧ t.buf = c.offer.buffer ∧ t.calls = rest ∧ t.csrAnswers = more
      ∧ t.csrReads = s.csrReads + answers.length + 1 ∧ t.dataReads = s.dataReads
      ∧ regWrites t.trace = (masterWriteWrites s.cfg a n c.offer.buffer).reverse ++ regWrites s.trace

/-- 43 R190, R214, 95 E1, E2, E5: a MASTER_READ whose classified waits are answered with DATA_REQ set, whose
idle waits are answered with IDLE set and whose byte polls are answered with DATA_READY set and IDLE and
NO_ACK clear ends with RET = 0 and IE = 1; exactly the n bytes received stand in the buffer in order, the
rest of it as it was; its register writes are a function of ADDR, SUBADDR and LEN. A block reset before the
call changes none of this. -/
def Obligations.MasterReadSucceeds : Prop :=
  ∀ (s : State) (c : HostCall) (rest : List HostCall) (a : DevAddr) (sub : Byte) (n : Nat)
    (pre polls data more dmore : List Byte) (p q z : Byte),
    s.setup = false → s.seq = .sIdle → s.calls = c :: rest →
    decodeCommand s.cfg.lenW c.word = .ok (.masterRead a sub n) → n ≤ c.offer.buffer.size →
    (∀ x ∈ pre, x &&& 0x10 ≠ 0) → pre.length = (if ten a then 1 else 0) + 2 →
    p &&& 0x80 ≠ 0 → q &&& 0x10 ≠ 0 →
    (∀ x ∈ polls, x &&& 0xE0 = 0x20) → polls.length = n → data.length = n → z &&& 0x80 ≠ 0 →
    s.csrAnswers = pre ++ p :: q :: (polls ++ z :: more) → s.dataAnswers = data ++ dmore →
    ∃ k t, steps k s = .next t ∧ t.seq = .sIdle ∧ t.busy = false ∧ t.ret = 0 ∧ t.ie = true
      ∧ t.calls = rest ∧ t.csrAnswers = more ∧ t.dataAnswers = dmore
      ∧ t.csrReads = s.csrReads + pre.length + n + 3 ∧ t.dataReads = s.dataReads + n
      ∧ (∀ i, t.buf.read i = if i < n then data.getD i 0 else c.offer.buffer.read i)
      ∧ regWrites t.trace = (masterReadWrites s.cfg a sub n).reverse ++ regWrites s.trace
end

