-- ==== Sys2Proof/Laws/Memory.lean ====
section
/-! SUPPORT. The laws of a buffer's bytes: reading back what was written, leaving the rest alone, and the
canonical form, which every memory operation keeps. -/

namespace Sys2Proof.Machine

@[simp] theorem Memory.read_nil (i : Nat) : Memory.read [] i = none := rfl

theorem Memory.read_cons (a : Nat) (b : Byte) (m : Memory) (i : Nat) :
    Memory.read ((a, b) :: m) i = if i = a then some b else Memory.read m i := rfl

/-- Below the first listed address nothing is listed. -/
theorem Memory.read_below {k i : Nat} {m : Memory} (h : Memory.risingFrom k m = true) (hi : i < k) :
    Memory.read m i = none := by
  induction m generalizing k with
  | nil => rfl
  | cons c m ih =>
    simp only [Memory.risingFrom, Bool.and_eq_true, decide_eq_true_eq] at h
    rw [Memory.read_cons, if_neg (by omega)]
    exact ih h.2 (by omega)

/-- A read after a write to the same place gives the byte written. -/
@[simp] theorem Memory.read_write_same (m : Memory) (i : Nat) (x : Byte) :
    Memory.read (Memory.write m i x) i = some x := by
  induction m with
  | nil => simp [Memory.write, Memory.read]
  | cons c m ih =>
    unfold Memory.write
    split
    · simp [Memory.read]
    · split
      · simp_all [Memory.read]
      · simp_all [Memory.read]

/-- A write leaves every other place alone. -/
theorem Memory.read_write_other (m : Memory) {i j : Nat} (x : Byte) (h : j ≠ i) :
    Memory.read (Memory.write m i x) j = Memory.read m j := by
  induction m with
  | nil => simp [Memory.write, Memory.read, h]
  | cons c m ih =>
    obtain ⟨a, b⟩ := c
    unfold Memory.write
    split
    · simp [Memory.read_cons, h]
    · split
      · subst i; simp [Memory.read_cons, h]
      · simp [Memory.read_cons, ih]

theorem Memory.risingFrom_mono {k l : Nat} {m : Memory} (h : Memory.risingFrom k m = true) (hl : l ≤ k) :
    Memory.risingFrom l m = true := by
  cases m with
  | nil => rfl
  | cons c m => simp_all [Memory.risingFrom]; omega

theorem Memory.risingFrom_write {k i : Nat} {m : Memory} (x : Byte) (h : Memory.risingFrom k m = true)
    (hi : k ≤ i) : Memory.risingFrom k (Memory.write m i x) = true := by
  induction m generalizing k with
  | nil => simp [Memory.write, Memory.risingFrom, hi]
  | cons c m ih =>
    simp only [Memory.risingFrom, Bool.and_eq_true, decide_eq_true_eq] at h
    unfold Memory.write
    split
    · simp only [Memory.risingFrom, Bool.and_eq_true, decide_eq_true_eq]
      exact ⟨hi, by omega, h.2⟩
    · split
      · simp only [Memory.risingFrom, Bool.and_eq_true, decide_eq_true_eq]
        exact ⟨by omega, h.2⟩
      · simp only [Memory.risingFrom, Bool.and_eq_true, decide_eq_true_eq]
        exact ⟨h.1, ih h.2 (by omega)⟩

/-- A write keeps the canonical form. -/
theorem Memory.wf_write {m : Memory} (i : Nat) (x : Byte) (h : Memory.wf m = true) :
    Memory.wf (Memory.write m i x) = true := Memory.risingFrom_write x h (Nat.zero_le i)

theorem Memory.all_write {m : Memory} {i n : Nat} (x : Byte) (h : m.all (fun c => decide (c.1 < n)) = true)
    (hi : i < n) : (Memory.write m i x).all (fun c => decide (c.1 < n)) = true := by
  induction m with
  | nil => simp [Memory.write, hi]
  | cons c m ih =>
    simp only [List.all_cons, Bool.and_eq_true, decide_eq_true_eq] at h
    unfold Memory.write
    split
    · simp [hi, h.1]; simpa using h.2
    · split
      · simp only [List.all_cons, Bool.and_eq_true, decide_eq_true_eq]; exact ⟨h.1, h.2⟩
      · simp only [List.all_cons, Bool.and_eq_true, decide_eq_true_eq]; exact ⟨h.1, ih h.2⟩

/-- A store inside a buffer keeps its canonical form. -/
theorem Buffer.wf_write {b : Buffer} {i : Nat} (x : Byte) (h : b.wf = true) (hi : i < b.size) :
    (b.write i x).wf = true := by
  simp only [Buffer.wf, Buffer.write, Bool.and_eq_true] at h ⊢
  exact ⟨Memory.wf_write i x h.1, Memory.all_write x h.2 hi⟩

@[simp] theorem Buffer.size_write (b : Buffer) (i : Nat) (x : Byte) : (b.write i x).size = b.size := rfl

@[simp] theorem Buffer.id_write (b : Buffer) (i : Nat) (x : Byte) : (b.write i x).id = b.id := rfl

@[simp] theorem Buffer.read_write_same (b : Buffer) (i : Nat) (x : Byte) : (b.write i x).read i = x := by
  simp [Buffer.read, Buffer.write]

theorem Buffer.read_write_other (b : Buffer) {i j : Nat} (x : Byte) (h : j ≠ i) :
    (b.write i x).read j = b.read j := by
  simp [Buffer.read, Buffer.write, Memory.read_write_other b.bytes x h]

/-- The reset state's buffer has the canonical form. -/
theorem reset_buf_wf : State.reset.buf.wf = true := by decide

end Sys2Proof.Machine
end

