-- ==== Sys2Proof/Laws/State.lean ====
section
/-! SUPPORT. One lemma per field per update of State, each true by rfl: what an operation writes and what it
leaves. No later proof unfolds a record update. -/

namespace Sys2Proof.Machine.State

variable (s : State)

/-! log -/

@[simp] theorem log_cfg (a : Action) : (s.log a).cfg = s.cfg := rfl
@[simp] theorem log_seq (a : Action) : (s.log a).seq = s.seq := rfl
@[simp] theorem log_pseq (a : Action) : (s.log a).pseq = s.pseq := rfl
@[simp] theorem log_setup (a : Action) : (s.log a).setup = s.setup := rfl
@[simp] theorem log_busy (a : Action) : (s.log a).busy = s.busy := rfl
@[simp] theorem log_op (a : Action) : (s.log a).op = s.op := rfl
@[simp] theorem log_addr (a : Action) : (s.log a).addr = s.addr := rfl
@[simp] theorem log_subaddr (a : Action) : (s.log a).subaddr = s.subaddr := rfl
@[simp] theorem log_len (a : Action) : (s.log a).len = s.len := rfl
@[simp] theorem log_idx (a : Action) : (s.log a).idx = s.idx := rfl
@[simp] theorem log_t (a : Action) : (s.log a).t = s.t := rfl
@[simp] theorem log_r (a : Action) : (s.log a).r = s.r := rfl
@[simp] theorem log_v (a : Action) : (s.log a).v = s.v := rfl
@[simp] theorem log_ret (a : Action) : (s.log a).ret = s.ret := rfl
@[simp] theorem log_abortSrc (a : Action) : (s.log a).abortSrc = s.abortSrc := rfl
@[simp] theorem log_ie (a : Action) : (s.log a).ie = s.ie := rfl
@[simp] theorem log_csrWrite (a : Action) : (s.log a).csrWrite = s.csrWrite := rfl
@[simp] theorem log_dataWrite (a : Action) : (s.log a).dataWrite = s.dataWrite := rfl
@[simp] theorem log_buf (a : Action) : (s.log a).buf = s.buf := rfl
@[simp] theorem log_csrAnswers (a : Action) : (s.log a).csrAnswers = s.csrAnswers := rfl
@[simp] theorem log_dataAnswers (a : Action) : (s.log a).dataAnswers = s.dataAnswers := rfl
@[simp] theorem log_csrReads (a : Action) : (s.log a).csrReads = s.csrReads := rfl
@[simp] theorem log_dataReads (a : Action) : (s.log a).dataReads = s.dataReads := rfl
@[simp] theorem log_offer (a : Action) : (s.log a).offer = s.offer := rfl
@[simp] theorem log_calls (a : Action) : (s.log a).calls = s.calls := rfl
@[simp] theorem log_slaveCalls (a : Action) : (s.log a).slaveCalls = s.slaveCalls := rfl
@[simp] theorem log_slActions (a : Action) : (s.log a).slActions = s.slActions := rfl
@[simp] theorem log_slResetHi (a : Action) : (s.log a).slResetHi = s.slResetHi := rfl
@[simp] theorem log_slResetLo (a : Action) : (s.log a).slResetLo = s.slResetLo := rfl
@[simp] theorem log_slEnableHi (a : Action) : (s.log a).slEnableHi = s.slEnableHi := rfl
@[simp] theorem log_slEnableLo (a : Action) : (s.log a).slEnableLo = s.slEnableLo := rfl
@[simp] theorem log_slAddr (a : Action) : (s.log a).slAddr = s.slAddr := rfl
@[simp] theorem log_slCallback (a : Action) : (s.log a).slCallback = s.slCallback := rfl
@[simp] theorem log_slaveAddr (a : Action) : (s.log a).slaveAddr = s.slaveAddr := rfl
@[simp] theorem log_attached (a : Action) : (s.log a).attached = s.attached := rfl
@[simp] theorem log_trace (a : Action) : (s.log a).trace = a :: s.trace := rfl

/-! readCsr -/

@[simp] theorem readCsr_cfg : s.readCsr.cfg = s.cfg := rfl
@[simp] theorem readCsr_seq : s.readCsr.seq = s.seq := rfl
@[simp] theorem readCsr_pseq : s.readCsr.pseq = s.pseq := rfl
@[simp] theorem readCsr_setup : s.readCsr.setup = s.setup := rfl
@[simp] theorem readCsr_busy : s.readCsr.busy = s.busy := rfl
@[simp] theorem readCsr_op : s.readCsr.op = s.op := rfl
@[simp] theorem readCsr_addr : s.readCsr.addr = s.addr := rfl
@[simp] theorem readCsr_subaddr : s.readCsr.subaddr = s.subaddr := rfl
@[simp] theorem readCsr_len : s.readCsr.len = s.len := rfl
@[simp] theorem readCsr_idx : s.readCsr.idx = s.idx := rfl
@[simp] theorem readCsr_t : s.readCsr.t = s.csrView := rfl
@[simp] theorem readCsr_r : s.readCsr.r = s.r := rfl
@[simp] theorem readCsr_v : s.readCsr.v = s.v := rfl
@[simp] theorem readCsr_ret : s.readCsr.ret = s.ret := rfl
@[simp] theorem readCsr_abortSrc : s.readCsr.abortSrc = s.abortSrc := rfl
@[simp] theorem readCsr_ie : s.readCsr.ie = s.ie := rfl
@[simp] theorem readCsr_csrWrite : s.readCsr.csrWrite = s.csrWrite := rfl
@[simp] theorem readCsr_dataWrite : s.readCsr.dataWrite = s.dataWrite := rfl
@[simp] theorem readCsr_buf : s.readCsr.buf = s.buf := rfl
@[simp] theorem readCsr_csrAnswers : s.readCsr.csrAnswers = s.csrAnswers.tail := rfl
@[simp] theorem readCsr_dataAnswers : s.readCsr.dataAnswers = s.dataAnswers := rfl
@[simp] theorem readCsr_csrReads : s.readCsr.csrReads = s.csrReads + 1 := rfl
@[simp] theorem readCsr_dataReads : s.readCsr.dataReads = s.dataReads := rfl
@[simp] theorem readCsr_offer : s.readCsr.offer = s.offer := rfl
@[simp] theorem readCsr_calls : s.readCsr.calls = s.calls := rfl
@[simp] theorem readCsr_slaveCalls : s.readCsr.slaveCalls = s.slaveCalls := rfl
@[simp] theorem readCsr_slActions : s.readCsr.slActions = s.slActions := rfl
@[simp] theorem readCsr_slResetHi : s.readCsr.slResetHi = s.slResetHi := rfl
@[simp] theorem readCsr_slResetLo : s.readCsr.slResetLo = s.slResetLo := rfl
@[simp] theorem readCsr_slEnableHi : s.readCsr.slEnableHi = s.slEnableHi := rfl
@[simp] theorem readCsr_slEnableLo : s.readCsr.slEnableLo = s.slEnableLo := rfl
@[simp] theorem readCsr_slAddr : s.readCsr.slAddr = s.slAddr := rfl
@[simp] theorem readCsr_slCallback : s.readCsr.slCallback = s.slCallback := rfl
@[simp] theorem readCsr_slaveAddr : s.readCsr.slaveAddr = s.slaveAddr := rfl
@[simp] theorem readCsr_attached : s.readCsr.attached = s.attached := rfl
@[simp] theorem readCsr_trace : s.readCsr.trace = .csrRead s.csrView :: s.trace := rfl

/-! readData -/

@[simp] theorem readData_cfg : s.readData.cfg = s.cfg := rfl
@[simp] theorem readData_seq : s.readData.seq = s.seq := rfl
@[simp] theorem readData_pseq : s.readData.pseq = s.pseq := rfl
@[simp] theorem readData_setup : s.readData.setup = s.setup := rfl
@[simp] theorem readData_busy : s.readData.busy = s.busy := rfl
@[simp] theorem readData_op : s.readData.op = s.op := rfl
@[simp] theorem readData_addr : s.readData.addr = s.addr := rfl
@[simp] theorem readData_subaddr : s.readData.subaddr = s.subaddr := rfl
@[simp] theorem readData_len : s.readData.len = s.len := rfl
@[simp] theorem readData_idx : s.readData.idx = s.idx := rfl
@[simp] theorem readData_t : s.readData.t = s.t := rfl
@[simp] theorem readData_r : s.readData.r = s.r := rfl
@[simp] theorem readData_v : s.readData.v = s.dataView := rfl
@[simp] theorem readData_ret : s.readData.ret = s.ret := rfl
@[simp] theorem readData_abortSrc : s.readData.abortSrc = s.abortSrc := rfl
@[simp] theorem readData_ie : s.readData.ie = s.ie := rfl
@[simp] theorem readData_csrWrite : s.readData.csrWrite = s.csrWrite := rfl
@[simp] theorem readData_dataWrite : s.readData.dataWrite = s.dataWrite := rfl
@[simp] theorem readData_buf : s.readData.buf = s.buf := rfl
@[simp] theorem readData_csrAnswers : s.readData.csrAnswers = s.csrAnswers := rfl
@[simp] theorem readData_dataAnswers : s.readData.dataAnswers = s.dataAnswers.tail := rfl
@[simp] theorem readData_csrReads : s.readData.csrReads = s.csrReads := rfl
@[simp] theorem readData_dataReads : s.readData.dataReads = s.dataReads + 1 := rfl
@[simp] theorem readData_offer : s.readData.offer = s.offer := rfl
@[simp] theorem readData_calls : s.readData.calls = s.calls := rfl
@[simp] theorem readData_slaveCalls : s.readData.slaveCalls = s.slaveCalls := rfl
@[simp] theorem readData_slActions : s.readData.slActions = s.slActions := rfl
@[simp] theorem readData_slResetHi : s.readData.slResetHi = s.slResetHi := rfl
@[simp] theorem readData_slResetLo : s.readData.slResetLo = s.slResetLo := rfl
@[simp] theorem readData_slEnableHi : s.readData.slEnableHi = s.slEnableHi := rfl
@[simp] theorem readData_slEnableLo : s.readData.slEnableLo = s.slEnableLo := rfl
@[simp] theorem readData_slAddr : s.readData.slAddr = s.slAddr := rfl
@[simp] theorem readData_slCallback : s.readData.slCallback = s.slCallback := rfl
@[simp] theorem readData_slaveAddr : s.readData.slaveAddr = s.slaveAddr := rfl
@[simp] theorem readData_attached : s.readData.attached = s.attached := rfl
@[simp] theorem readData_trace : s.readData.trace = .dataRead s.dataView :: s.trace := rfl

/-! writeCsr -/

@[simp] theorem writeCsr_cfg (w : Byte) : (s.writeCsr w).cfg = s.cfg := rfl
@[simp] theorem writeCsr_seq (w : Byte) : (s.writeCsr w).seq = s.seq := rfl
@[simp] theorem writeCsr_pseq (w : Byte) : (s.writeCsr w).pseq = s.pseq := rfl
@[simp] theorem writeCsr_setup (w : Byte) : (s.writeCsr w).setup = true := rfl
@[simp] theorem writeCsr_busy (w : Byte) : (s.writeCsr w).busy = s.busy := rfl
@[simp] theorem writeCsr_op (w : Byte) : (s.writeCsr w).op = s.op := rfl
@[simp] theorem writeCsr_addr (w : Byte) : (s.writeCsr w).addr = s.addr := rfl
@[simp] theorem writeCsr_subaddr (w : Byte) : (s.writeCsr w).subaddr = s.subaddr := rfl
@[simp] theorem writeCsr_len (w : Byte) : (s.writeCsr w).len = s.len := rfl
@[simp] theorem writeCsr_idx (w : Byte) : (s.writeCsr w).idx = s.idx := rfl
@[simp] theorem writeCsr_t (w : Byte) : (s.writeCsr w).t = s.t := rfl
@[simp] theorem writeCsr_r (w : Byte) : (s.writeCsr w).r = s.r := rfl
@[simp] theorem writeCsr_v (w : Byte) : (s.writeCsr w).v = s.v := rfl
@[simp] theorem writeCsr_ret (w : Byte) : (s.writeCsr w).ret = s.ret := rfl
@[simp] theorem writeCsr_abortSrc (w : Byte) : (s.writeCsr w).abortSrc = s.abortSrc := rfl
@[simp] theorem writeCsr_ie (w : Byte) : (s.writeCsr w).ie = s.ie := rfl
@[simp] theorem writeCsr_csrWrite (w : Byte) : (s.writeCsr w).csrWrite = w := rfl
@[simp] theorem writeCsr_dataWrite (w : Byte) : (s.writeCsr w).dataWrite = s.dataWrite := rfl
@[simp] theorem writeCsr_buf (w : Byte) : (s.writeCsr w).buf = s.buf := rfl
@[simp] theorem writeCsr_csrAnswers (w : Byte) : (s.writeCsr w).csrAnswers = s.csrAnswers := rfl
@[simp] theorem writeCsr_dataAnswers (w : Byte) : (s.writeCsr w).dataAnswers = s.dataAnswers := rfl
@[simp] theorem writeCsr_csrReads (w : Byte) : (s.writeCsr w).csrReads = s.csrReads := rfl
@[simp] theorem writeCsr_dataReads (w : Byte) : (s.writeCsr w).dataReads = s.dataReads := rfl
@[simp] theorem writeCsr_offer (w : Byte) : (s.writeCsr w).offer = s.offer := rfl
@[simp] theorem writeCsr_calls (w : Byte) : (s.writeCsr w).calls = s.calls := rfl
@[simp] theorem writeCsr_slaveCalls (w : Byte) : (s.writeCsr w).slaveCalls = s.slaveCalls := rfl
@[simp] theorem writeCsr_slActions (w : Byte) : (s.writeCsr w).slActions = s.slActions := rfl
@[simp] theorem writeCsr_slResetHi (w : Byte) : (s.writeCsr w).slResetHi = s.slResetHi := rfl
@[simp] theorem writeCsr_slResetLo (w : Byte) : (s.writeCsr w).slResetLo = s.slResetLo := rfl
@[simp] theorem writeCsr_slEnableHi (w : Byte) : (s.writeCsr w).slEnableHi = s.slEnableHi := rfl
@[simp] theorem writeCsr_slEnableLo (w : Byte) : (s.writeCsr w).slEnableLo = s.slEnableLo := rfl
@[simp] theorem writeCsr_slAddr (w : Byte) : (s.writeCsr w).slAddr = s.slAddr := rfl
@[simp] theorem writeCsr_slCallback (w : Byte) : (s.writeCsr w).slCallback = s.slCallback := rfl
@[simp] theorem writeCsr_slaveAddr (w : Byte) : (s.writeCsr w).slaveAddr = s.slaveAddr := rfl
@[simp] theorem writeCsr_attached (w : Byte) : (s.writeCsr w).attached = s.attached := rfl
@[simp] theorem writeCsr_trace (w : Byte) : (s.writeCsr w).trace = .csrWrite w :: s.trace := rfl

/-! writeData -/

@[simp] theorem writeData_cfg (b : Byte) : (s.writeData b).cfg = s.cfg := rfl
@[simp] theorem writeData_seq (b : Byte) : (s.writeData b).seq = s.seq := rfl
@[simp] theorem writeData_pseq (b : Byte) : (s.writeData b).pseq = s.pseq := rfl
@[simp] theorem writeData_setup (b : Byte) : (s.writeData b).setup = true := rfl
@[simp] theorem writeData_busy (b : Byte) : (s.writeData b).busy = s.busy := rfl
@[simp] theorem writeData_op (b : Byte) : (s.writeData b).op = s.op := rfl
@[simp] theorem writeData_addr (b : Byte) : (s.writeData b).addr = s.addr := rfl
@[simp] theorem writeData_subaddr (b : Byte) : (s.writeData b).subaddr = s.subaddr := rfl
@[simp] theorem writeData_len (b : Byte) : (s.writeData b).len = s.len := rfl
@[simp] theorem writeData_idx (b : Byte) : (s.writeData b).idx = s.idx := rfl
@[simp] theorem writeData_t (b : Byte) : (s.writeData b).t = s.t := rfl
@[simp] theorem writeData_r (b : Byte) : (s.writeData b).r = s.r := rfl
@[simp] theorem writeData_v (b : Byte) : (s.writeData b).v = s.v := rfl
@[simp] theorem writeData_ret (b : Byte) : (s.writeData b).ret = s.ret := rfl
@[simp] theorem writeData_abortSrc (b : Byte) : (s.writeData b).abortSrc = s.abortSrc := rfl
@[simp] theorem writeData_ie (b : Byte) : (s.writeData b).ie = s.ie := rfl
@[simp] theorem writeData_csrWrite (b : Byte) : (s.writeData b).csrWrite = s.csrWrite := rfl
@[simp] theorem writeData_dataWrite (b : Byte) : (s.writeData b).dataWrite = b := rfl
@[simp] theorem writeData_buf (b : Byte) : (s.writeData b).buf = s.buf := rfl
@[simp] theorem writeData_csrAnswers (b : Byte) : (s.writeData b).csrAnswers = s.csrAnswers := rfl
@[simp] theorem writeData_dataAnswers (b : Byte) : (s.writeData b).dataAnswers = s.dataAnswers := rfl
@[simp] theorem writeData_csrReads (b : Byte) : (s.writeData b).csrReads = s.csrReads := rfl
@[simp] theorem writeData_dataReads (b : Byte) : (s.writeData b).dataReads = s.dataReads := rfl
@[simp] theorem writeData_offer (b : Byte) : (s.writeData b).offer = s.offer := rfl
@[simp] theorem writeData_calls (b : Byte) : (s.writeData b).calls = s.calls := rfl
@[simp] theorem writeData_slaveCalls (b : Byte) : (s.writeData b).slaveCalls = s.slaveCalls := rfl
@[simp] theorem writeData_slActions (b : Byte) : (s.writeData b).slActions = s.slActions := rfl
@[simp] theorem writeData_slResetHi (b : Byte) : (s.writeData b).slResetHi = s.slResetHi := rfl
@[simp] theorem writeData_slResetLo (b : Byte) : (s.writeData b).slResetLo = s.slResetLo := rfl
@[simp] theorem writeData_slEnableHi (b : Byte) : (s.writeData b).slEnableHi = s.slEnableHi := rfl
@[simp] theorem writeData_slEnableLo (b : Byte) : (s.writeData b).slEnableLo = s.slEnableLo := rfl
@[simp] theorem writeData_slAddr (b : Byte) : (s.writeData b).slAddr = s.slAddr := rfl
@[simp] theorem writeData_slCallback (b : Byte) : (s.writeData b).slCallback = s.slCallback := rfl
@[simp] theorem writeData_slaveAddr (b : Byte) : (s.writeData b).slaveAddr = s.slaveAddr := rfl
@[simp] theorem writeData_attached (b : Byte) : (s.writeData b).attached = s.attached := rfl
@[simp] theorem writeData_trace (b : Byte) : (s.writeData b).trace = .dataWrite b :: s.trace := rfl

/-! setIe -/

@[simp] theorem setIe_cfg (b : Bool) : (s.setIe b).cfg = s.cfg := rfl
@[simp] theorem setIe_seq (b : Bool) : (s.setIe b).seq = s.seq := rfl
@[simp] theorem setIe_pseq (b : Bool) : (s.setIe b).pseq = s.pseq := rfl
@[simp] theorem setIe_setup (b : Bool) : (s.setIe b).setup = s.setup := rfl
@[simp] theorem setIe_busy (b : Bool) : (s.setIe b).busy = s.busy := rfl
@[simp] theorem setIe_op (b : Bool) : (s.setIe b).op = s.op := rfl
@[simp] theorem setIe_addr (b : Bool) : (s.setIe b).addr = s.addr := rfl
@[simp] theorem setIe_subaddr (b : Bool) : (s.setIe b).subaddr = s.subaddr := rfl
@[simp] theorem setIe_len (b : Bool) : (s.setIe b).len = s.len := rfl
@[simp] theorem setIe_idx (b : Bool) : (s.setIe b).idx = s.idx := rfl
@[simp] theorem setIe_t (b : Bool) : (s.setIe b).t = s.t := rfl
@[simp] theorem setIe_r (b : Bool) : (s.setIe b).r = s.r := rfl
@[simp] theorem setIe_v (b : Bool) : (s.setIe b).v = s.v := rfl
@[simp] theorem setIe_ret (b : Bool) : (s.setIe b).ret = s.ret := rfl
@[simp] theorem setIe_abortSrc (b : Bool) : (s.setIe b).abortSrc = s.abortSrc := rfl
@[simp] theorem setIe_ie (b : Bool) : (s.setIe b).ie = b := rfl
@[simp] theorem setIe_csrWrite (b : Bool) : (s.setIe b).csrWrite = s.csrWrite := rfl
@[simp] theorem setIe_dataWrite (b : Bool) : (s.setIe b).dataWrite = s.dataWrite := rfl
@[simp] theorem setIe_buf (b : Bool) : (s.setIe b).buf = s.buf := rfl
@[simp] theorem setIe_csrAnswers (b : Bool) : (s.setIe b).csrAnswers = s.csrAnswers := rfl
@[simp] theorem setIe_dataAnswers (b : Bool) : (s.setIe b).dataAnswers = s.dataAnswers := rfl
@[simp] theorem setIe_csrReads (b : Bool) : (s.setIe b).csrReads = s.csrReads := rfl
@[simp] theorem setIe_dataReads (b : Bool) : (s.setIe b).dataReads = s.dataReads := rfl
@[simp] theorem setIe_offer (b : Bool) : (s.setIe b).offer = s.offer := rfl
@[simp] theorem setIe_calls (b : Bool) : (s.setIe b).calls = s.calls := rfl
@[simp] theorem setIe_slaveCalls (b : Bool) : (s.setIe b).slaveCalls = s.slaveCalls := rfl
@[simp] theorem setIe_slActions (b : Bool) : (s.setIe b).slActions = s.slActions := rfl
@[simp] theorem setIe_slResetHi (b : Bool) : (s.setIe b).slResetHi = s.slResetHi := rfl
@[simp] theorem setIe_slResetLo (b : Bool) : (s.setIe b).slResetLo = s.slResetLo := rfl
@[simp] theorem setIe_slEnableHi (b : Bool) : (s.setIe b).slEnableHi = s.slEnableHi := rfl
@[simp] theorem setIe_slEnableLo (b : Bool) : (s.setIe b).slEnableLo = s.slEnableLo := rfl
@[simp] theorem setIe_slAddr (b : Bool) : (s.setIe b).slAddr = s.slAddr := rfl
@[simp] theorem setIe_slCallback (b : Bool) : (s.setIe b).slCallback = s.slCallback := rfl
@[simp] theorem setIe_slaveAddr (b : Bool) : (s.setIe b).slaveAddr = s.slaveAddr := rfl
@[simp] theorem setIe_attached (b : Bool) : (s.setIe b).attached = s.attached := rfl
@[simp] theorem setIe_trace (b : Bool) : (s.setIe b).trace = .ieWrite b :: s.trace := rfl

/-! goto -/

@[simp] theorem goto_cfg (q : Seq) : (s.goto q).cfg = s.cfg := rfl
@[simp] theorem goto_seq (q : Seq) : (s.goto q).seq = q := rfl
@[simp] theorem goto_pseq (q : Seq) :
    (s.goto q).pseq = if isWaiting s.cfg q then .pRead else s.pseq := rfl
@[simp] theorem goto_setup (q : Seq) : (s.goto q).setup = s.setup := rfl
@[simp] theorem goto_busy (q : Seq) : (s.goto q).busy = s.busy := rfl
@[simp] theorem goto_op (q : Seq) : (s.goto q).op = s.op := rfl
@[simp] theorem goto_addr (q : Seq) : (s.goto q).addr = s.addr := rfl
@[simp] theorem goto_subaddr (q : Seq) : (s.goto q).subaddr = s.subaddr := rfl
@[simp] theorem goto_len (q : Seq) : (s.goto q).len = s.len := rfl
@[simp] theorem goto_idx (q : Seq) : (s.goto q).idx = s.idx := rfl
@[simp] theorem goto_t (q : Seq) : (s.goto q).t = s.t := rfl
@[simp] theorem goto_r (q : Seq) : (s.goto q).r = s.r := rfl
@[simp] theorem goto_v (q : Seq) : (s.goto q).v = s.v := rfl
@[simp] theorem goto_ret (q : Seq) : (s.goto q).ret = s.ret := rfl
@[simp] theorem goto_abortSrc (q : Seq) : (s.goto q).abortSrc = s.abortSrc := rfl
@[simp] theorem goto_ie (q : Seq) : (s.goto q).ie = s.ie := rfl
@[simp] theorem goto_csrWrite (q : Seq) : (s.goto q).csrWrite = s.csrWrite := rfl
@[simp] theorem goto_dataWrite (q : Seq) : (s.goto q).dataWrite = s.dataWrite := rfl
@[simp] theorem goto_buf (q : Seq) : (s.goto q).buf = s.buf := rfl
@[simp] theorem goto_csrAnswers (q : Seq) : (s.goto q).csrAnswers = s.csrAnswers := rfl
@[simp] theorem goto_dataAnswers (q : Seq) : (s.goto q).dataAnswers = s.dataAnswers := rfl
@[simp] theorem goto_csrReads (q : Seq) : (s.goto q).csrReads = s.csrReads := rfl
@[simp] theorem goto_dataReads (q : Seq) : (s.goto q).dataReads = s.dataReads := rfl
@[simp] theorem goto_offer (q : Seq) : (s.goto q).offer = s.offer := rfl
@[simp] theorem goto_calls (q : Seq) : (s.goto q).calls = s.calls := rfl
@[simp] theorem goto_slaveCalls (q : Seq) : (s.goto q).slaveCalls = s.slaveCalls := rfl
@[simp] theorem goto_slActions (q : Seq) : (s.goto q).slActions = s.slActions := rfl
@[simp] theorem goto_slResetHi (q : Seq) : (s.goto q).slResetHi = s.slResetHi := rfl
@[simp] theorem goto_slResetLo (q : Seq) : (s.goto q).slResetLo = s.slResetLo := rfl
@[simp] theorem goto_slEnableHi (q : Seq) : (s.goto q).slEnableHi = s.slEnableHi := rfl
@[simp] theorem goto_slEnableLo (q : Seq) : (s.goto q).slEnableLo = s.slEnableLo := rfl
@[simp] theorem goto_slAddr (q : Seq) : (s.goto q).slAddr = s.slAddr := rfl
@[simp] theorem goto_slCallback (q : Seq) : (s.goto q).slCallback = s.slCallback := rfl
@[simp] theorem goto_slaveAddr (q : Seq) : (s.goto q).slaveAddr = s.slaveAddr := rfl
@[simp] theorem goto_attached (q : Seq) : (s.goto q).attached = s.attached := rfl
@[simp] theorem goto_trace (q : Seq) : (s.goto q).trace = s.trace := rfl

/-! raiseAbort -/

@[simp] theorem raiseAbort_cfg (a : AbortSrc) : (s.raiseAbort a).cfg = s.cfg := rfl
@[simp] theorem raiseAbort_seq (a : AbortSrc) : (s.raiseAbort a).seq = .tAbort := rfl
@[simp] theorem raiseAbort_pseq (a : AbortSrc) : (s.raiseAbort a).pseq = s.pseq := rfl
@[simp] theorem raiseAbort_setup (a : AbortSrc) : (s.raiseAbort a).setup = s.setup := rfl
@[simp] theorem raiseAbort_busy (a : AbortSrc) : (s.raiseAbort a).busy = s.busy := rfl
@[simp] theorem raiseAbort_op (a : AbortSrc) : (s.raiseAbort a).op = s.op := rfl
@[simp] theorem raiseAbort_addr (a : AbortSrc) : (s.raiseAbort a).addr = s.addr := rfl
@[simp] theorem raiseAbort_subaddr (a : AbortSrc) : (s.raiseAbort a).subaddr = s.subaddr := rfl
@[simp] theorem raiseAbort_len (a : AbortSrc) : (s.raiseAbort a).len = s.len := rfl
@[simp] theorem raiseAbort_idx (a : AbortSrc) : (s.raiseAbort a).idx = s.idx := rfl
@[simp] theorem raiseAbort_t (a : AbortSrc) : (s.raiseAbort a).t = s.t := rfl
@[simp] theorem raiseAbort_r (a : AbortSrc) : (s.raiseAbort a).r = s.r := rfl
@[simp] theorem raiseAbort_v (a : AbortSrc) : (s.raiseAbort a).v = s.v := rfl
@[simp] theorem raiseAbort_ret (a : AbortSrc) : (s.raiseAbort a).ret = s.ret := rfl
@[simp] theorem raiseAbort_abortSrc (a : AbortSrc) : (s.raiseAbort a).abortSrc = a := rfl
@[simp] theorem raiseAbort_ie (a : AbortSrc) : (s.raiseAbort a).ie = s.ie := rfl
@[simp] theorem raiseAbort_csrWrite (a : AbortSrc) : (s.raiseAbort a).csrWrite = s.csrWrite := rfl
@[simp] theorem raiseAbort_dataWrite (a : AbortSrc) : (s.raiseAbort a).dataWrite = s.dataWrite := rfl
@[simp] theorem raiseAbort_buf (a : AbortSrc) : (s.raiseAbort a).buf = s.buf := rfl
@[simp] theorem raiseAbort_csrAnswers (a : AbortSrc) : (s.raiseAbort a).csrAnswers = s.csrAnswers := rfl
@[simp] theorem raiseAbort_dataAnswers (a : AbortSrc) :
    (s.raiseAbort a).dataAnswers = s.dataAnswers := rfl
@[simp] theorem raiseAbort_csrReads (a : AbortSrc) : (s.raiseAbort a).csrReads = s.csrReads := rfl
@[simp] theorem raiseAbort_dataReads (a : AbortSrc) : (s.raiseAbort a).dataReads = s.dataReads := rfl
@[simp] theorem raiseAbort_offer (a : AbortSrc) : (s.raiseAbort a).offer = s.offer := rfl
@[simp] theorem raiseAbort_calls (a : AbortSrc) : (s.raiseAbort a).calls = s.calls := rfl
@[simp] theorem raiseAbort_slaveCalls (a : AbortSrc) : (s.raiseAbort a).slaveCalls = s.slaveCalls := rfl
@[simp] theorem raiseAbort_slActions (a : AbortSrc) : (s.raiseAbort a).slActions = s.slActions := rfl
@[simp] theorem raiseAbort_slResetHi (a : AbortSrc) : (s.raiseAbort a).slResetHi = s.slResetHi := rfl
@[simp] theorem raiseAbort_slResetLo (a : AbortSrc) : (s.raiseAbort a).slResetLo = s.slResetLo := rfl
@[simp] theorem raiseAbort_slEnableHi (a : AbortSrc) : (s.raiseAbort a).slEnableHi = s.slEnableHi := rfl
@[simp] theorem raiseAbort_slEnableLo (a : AbortSrc) : (s.raiseAbort a).slEnableLo = s.slEnableLo := rfl
@[simp] theorem raiseAbort_slAddr (a : AbortSrc) : (s.raiseAbort a).slAddr = s.slAddr := rfl
@[simp] theorem raiseAbort_slCallback (a : AbortSrc) : (s.raiseAbort a).slCallback = s.slCallback := rfl
@[simp] theorem raiseAbort_slaveAddr (a : AbortSrc) : (s.raiseAbort a).slaveAddr = s.slaveAddr := rfl
@[simp] theorem raiseAbort_attached (a : AbortSrc) : (s.raiseAbort a).attached = s.attached := rfl
@[simp] theorem raiseAbort_trace (a : AbortSrc) : (s.raiseAbort a).trace = s.trace := rfl

/-! present -/

@[simp] theorem present_cfg (c : HostCall) (rest : List HostCall) :
    (s.present c rest).cfg = s.cfg := rfl
@[simp] theorem present_seq (c : HostCall) (rest : List HostCall) :
    (s.present c rest).seq = s.seq := rfl
@[simp] theorem present_pseq (c : HostCall) (rest : List HostCall) :
    (s.present c rest).pseq = s.pseq := rfl
@[simp] theorem present_setup (c : HostCall) (rest : List HostCall) :
    (s.present c rest).setup = s.setup := rfl
@[simp] theorem present_busy (c : HostCall) (rest : List HostCall) :
    (s.present c rest).busy = s.busy := rfl
@[simp] theorem present_op (c : HostCall) (rest : List HostCall) : (s.present c rest).op = s.op := rfl
@[simp] theorem present_addr (c : HostCall) (rest : List HostCall) :
    (s.present c rest).addr = s.addr := rfl
@[simp] theorem present_subaddr (c : HostCall) (rest : List HostCall) :
    (s.present c rest).subaddr = s.subaddr := rfl
@[simp] theorem present_len (c : HostCall) (rest : List HostCall) :
    (s.present c rest).len = s.len := rfl
@[simp] theorem present_idx (c : HostCall) (rest : List HostCall) :
    (s.present c rest).idx = s.idx := rfl
@[simp] theorem present_t (c : HostCall) (rest : List HostCall) : (s.present c rest).t = s.t := rfl
@[simp] theorem present_r (c : HostCall) (rest : List HostCall) : (s.present c rest).r = s.r := rfl
@[simp] theorem present_v (c : HostCall) (rest : List HostCall) : (s.present c rest).v = s.v := rfl
@[simp] theorem present_ret (c : HostCall) (rest : List HostCall) :
    (s.present c rest).ret = s.ret := rfl
@[simp] theorem present_abortSrc (c : HostCall) (rest : List HostCall) :
    (s.present c rest).abortSrc = s.abortSrc := rfl
@[simp] theorem present_ie (c : HostCall) (rest : List HostCall) : (s.present c rest).ie = s.ie := rfl
@[simp] theorem present_csrWrite (c : HostCall) (rest : List HostCall) :
    (s.present c rest).csrWrite = s.csrWrite := rfl
@[simp] theorem present_dataWrite (c : HostCall) (rest : List HostCall) :
    (s.present c rest).dataWrite = s.dataWrite := rfl
@[simp] theorem present_buf (c : HostCall) (rest : List HostCall) :
    (s.present c rest).buf = s.buf := rfl
@[simp] theorem present_csrAnswers (c : HostCall) (rest : List HostCall) :
    (s.present c rest).csrAnswers = s.csrAnswers := rfl
@[simp] theorem present_dataAnswers (c : HostCall) (rest : List HostCall) :
    (s.present c rest).dataAnswers = s.dataAnswers := rfl
@[simp] theorem present_csrReads (c : HostCall) (rest : List HostCall) :
    (s.present c rest).csrReads = s.csrReads := rfl
@[simp] theorem present_dataReads (c : HostCall) (rest : List HostCall) :
    (s.present c rest).dataReads = s.dataReads := rfl
@[simp] theorem present_offer (c : HostCall) (rest : List HostCall) :
    (s.present c rest).offer = c.offer := rfl
@[simp] theorem present_calls (c : HostCall) (rest : List HostCall) :
    (s.present c rest).calls = rest := rfl
@[simp] theorem present_slaveCalls (c : HostCall) (rest : List HostCall) :
    (s.present c rest).slaveCalls = s.slaveCalls := rfl
@[simp] theorem present_slActions (c : HostCall) (rest : List HostCall) :
    (s.present c rest).slActions = s.slActions := rfl
@[simp] theorem present_slResetHi (c : HostCall) (rest : List HostCall) :
    (s.present c rest).slResetHi = s.slResetHi := rfl
@[simp] theorem present_slResetLo (c : HostCall) (rest : List HostCall) :
    (s.present c rest).slResetLo = s.slResetLo := rfl
@[simp] theorem present_slEnableHi (c : HostCall) (rest : List HostCall) :
    (s.present c rest).slEnableHi = s.slEnableHi := rfl
@[simp] theorem present_slEnableLo (c : HostCall) (rest : List HostCall) :
    (s.present c rest).slEnableLo = s.slEnableLo := rfl
@[simp] theorem present_slAddr (c : HostCall) (rest : List HostCall) :
    (s.present c rest).slAddr = s.slAddr := rfl
@[simp] theorem present_slCallback (c : HostCall) (rest : List HostCall) :
    (s.present c rest).slCallback = s.slCallback := rfl
@[simp] theorem present_slaveAddr (c : HostCall) (rest : List HostCall) :
    (s.present c rest).slaveAddr = s.slaveAddr := rfl
@[simp] theorem present_attached (c : HostCall) (rest : List HostCall) :
    (s.present c rest).attached = s.attached := rfl
@[simp] theorem present_trace (c : HostCall) (rest : List HostCall) :
    (s.present c rest).trace = s.trace := rfl

end Sys2Proof.Machine.State
end

