-- ==== Sys2Proof/Laws/Ops.lean ====
section
/-! SUPPORT. One lemma per shared operation that says once everything it can do; later proofs cite it. -/

namespace Sys2Proof.Machine

/-- Outside the waiting states SEQ <- q writes SEQ only. -/
theorem State.goto_plain (s : State) {q : Seq} (h : waitMode s.cfg q = none) : s.goto q = { s with seq := q } := by
  simp [State.goto, isWaiting, h]

/-- Entry to a waiting state sets PSEQ to P_READ (40 R131). -/
theorem State.goto_wait (s : State) {q : Seq} (h : (waitMode s.cfg q).isSome = true) :
    s.goto q = { s with seq := q, pseq := .pRead } := by
  simp [State.goto, isWaiting, h]

/-- The mode of a wait depends on the state and on one switch. -/
theorem waitMode_congr {c d : Config} (h : c.finalWaitAborts = d.finalWaitAborts) (q : Seq) :
    waitMode c q = waitMode d q := by
  cases q <;> simp [waitMode, h]

/-- Where raising an abort goes and what it leaves: only SEQ and the choice of R or T are written. -/
theorem State.raiseAbort_eq (s : State) (a : AbortSrc) :
    s.raiseAbort a = { s with abortSrc := a, seq := .tAbort } := rfl

/-- The end of a transaction (60 R245, R246). -/
theorem State.finish_eq (s : State) (x : Byte) :
    s.finish x = { s with ie := true, ret := x, busy := false, seq := .sIdle, trace := .ieWrite true :: s.trace } :=
  rfl

/-- A classified wait ends in one of two ways (40 R135, 60 R242). -/
theorem State.endClassified_cases (s : State) :
    (classify s.t = 0 ∧ s.endClassified = ({ s with r := 0 }).endWait)
      ∨ (classify s.t ≠ 0 ∧ s.endClassified = ({ s with r := classify s.t }).raiseAbort .r) := by
  by_cases h : classify s.t = 0
  · left; exact ⟨h, by simp [State.endClassified, h]⟩
  · right; exact ⟨h, if_pos h⟩

/-- The test of a poll spins, ends, or ends classified (40 R134 to R138). -/
theorem State.pollTest_cases (s : State) (m : WMode) :
    (m.ends s.t = false ∧ s.pollTest m = s.pollAgain)
      ∨ (m.ends s.t = true ∧ m ≠ .req ∧ s.pollTest m = s.endWait)
      ∨ (m.ends s.t = true ∧ m = .req ∧ s.pollTest m = s.endClassified) := by
  by_cases h : m.ends s.t = true
  · by_cases hm : m = .req
    · subst hm; right; right; exact ⟨h, rfl, by simp [State.pollTest, h]⟩
    · right; left; exact ⟨h, hm, by simp [State.pollTest, h, hm]⟩
  · left; exact ⟨by simpa using h, by simp [State.pollTest, h]⟩

/-- A step of a poll is a read, a delay or a test (40 R131). -/
theorem State.pollStep_cases (s : State) (m : WMode) :
    (s.pseq = .pRead ∧ s.pollStep m = s.pollRead) ∨ (s.pseq = .pDly ∧ s.pollStep m = s.pollDelay)
      ∨ (s.pseq = .pTest ∧ s.pollStep m = s.pollTest m) := by
  cases h : s.pseq <;> simp [State.pollStep, h]

/-- A check of a read snapshot aborts with T or takes the byte (43 R204). -/
theorem State.checkSnapshot_cases (s : State) :
    (checkFails s.t = true ∧ s.checkSnapshot = s.raiseAbort .t)
      ∨ (checkFails s.t = false ∧ s.checkSnapshot = s.goto .rFetch) := by
  by_cases h : checkFails s.t = true
  · left; exact ⟨h, by simp [State.checkSnapshot, h]⟩
  · right; exact ⟨by simpa using h, by simp [State.checkSnapshot, h]⟩

/-- After an action of SL_PASS the next one is due, or the command has ended (44 R231). -/
theorem State.nextSlave_cases (s : State) :
    (s.slActions.tail ≠ [] ∧ s.nextSlave = { s with slActions := s.slActions.tail })
      ∨ (s.slActions.tail = [] ∧ s.nextSlave = { s with slActions := [], busy := false, seq := .sIdle }) := by
  by_cases h : s.slActions.tail = []
  · right; exact ⟨h, if_pos h⟩
  · left; exact ⟨h, if_neg h⟩

/-- A write that conveys the response address is one register write after which a delay is due (44 R231). -/
theorem State.convey_cases (s : State) (w : RegWrite) :
    (∃ x, w = .csr x ∧ s.convey w = s.writeCsr (namedBits s.cfg.stop x))
      ∨ (∃ b, w = .data b ∧ s.convey w = s.writeData b) := by
  cases w with
  | csr x => left; exact ⟨x, rfl, rfl⟩
  | data b => right; exact ⟨b, rfl, rfl⟩

/-- What block reset leaves (70 R280): SEQ = S_IDLE, PSEQ = P_READ, BUSY = 0, and no delay due. -/
@[simp] theorem State.blockReset_seq (s : State) : s.blockReset.seq = .sIdle := rfl
@[simp] theorem State.blockReset_pseq (s : State) : s.blockReset.pseq = .pRead := rfl
@[simp] theorem State.blockReset_busy (s : State) : s.blockReset.busy = false := rfl
@[simp] theorem State.blockReset_setup (s : State) : s.blockReset.setup = false := rfl
@[simp] theorem State.blockReset_ret (s : State) : s.blockReset.ret = 0 := rfl

/-- What block reset does not touch (70 R281). -/
@[simp] theorem State.blockReset_cfg (s : State) : s.blockReset.cfg = s.cfg := rfl
@[simp] theorem State.blockReset_ie (s : State) : s.blockReset.ie = s.ie := rfl
@[simp] theorem State.blockReset_csrWrite (s : State) : s.blockReset.csrWrite = s.csrWrite := rfl
@[simp] theorem State.blockReset_dataWrite (s : State) : s.blockReset.dataWrite = s.dataWrite := rfl
@[simp] theorem State.blockReset_buf (s : State) : s.blockReset.buf = s.buf := rfl
@[simp] theorem State.blockReset_csrAnswers (s : State) : s.blockReset.csrAnswers = s.csrAnswers := rfl
@[simp] theorem State.blockReset_dataAnswers (s : State) : s.blockReset.dataAnswers = s.dataAnswers := rfl
@[simp] theorem State.blockReset_csrReads (s : State) : s.blockReset.csrReads = s.csrReads := rfl
@[simp] theorem State.blockReset_dataReads (s : State) : s.blockReset.dataReads = s.dataReads := rfl
@[simp] theorem State.blockReset_offer (s : State) : s.blockReset.offer = s.offer := rfl
@[simp] theorem State.blockReset_calls (s : State) : s.blockReset.calls = s.calls := rfl
@[simp] theorem State.blockReset_slaveCalls (s : State) : s.blockReset.slaveCalls = s.slaveCalls := rfl
@[simp] theorem State.blockReset_slaveAddr (s : State) : s.blockReset.slaveAddr = s.slaveAddr := rfl
@[simp] theorem State.blockReset_attached (s : State) : s.blockReset.attached = s.attached := rfl
@[simp] theorem State.blockReset_trace (s : State) : s.blockReset.trace = s.trace := rfl

/-- If the acceptance of a master command answers a next state, the command was ignored or taken (10_state
R26). -/
theorem State.acceptMaster_next {s t : State} {op : BitVec 2} {a : DevAddr} {sub : Byte} {n : Nat}
    (h : s.acceptMaster op a sub n = .next t) :
    (s.seq ≠ .sIdle ∧ t = s)
      ∨ (s.seq = .sIdle ∧ n ≤ s.offer.buffer.size ∧ t = { s with
          op := op, addr := a, subaddr := sub, len := n, busy := true, buf := s.offer.buffer, seq := .tIrqOff }) := by
  unfold State.acceptMaster at h
  by_cases hs : s.seq ≠ .sIdle
  · left; simp only [if_pos hs] at h; cases h; exact ⟨hs, rfl⟩
  · rw [if_neg hs] at h
    by_cases hb : s.offer.buffer.size < n
    · rw [if_pos hb] at h; cases h
    · rw [if_neg hb] at h; cases h
      right; exact ⟨by simpa using hs, by omega, rfl⟩

/-- An index of BUF is below LEN and below the size of the buffer (20_memory R62). -/
theorem State.bufIndexOk_iff (s : State) (i : Nat) : s.bufIndexOk i = true ↔ i < s.len ∧ i < s.buf.size := by
  simp [State.bufIndexOk]

end Sys2Proof.Machine
end

