-- ==== Sys2Proof/Laws/PerInstr.lean ====
section
/-! SUPPORT. Statements made per instruction (LAWS.json). EncodeFits: the word of a well-formed instruction
fits the format of its place (30_encoding R90). -/

namespace Sys2Proof.Laws.EncodeFits

/-- The word of a well-formed instruction has no more bits than its place. -/
def Statement (i : Instr) : Prop :=
  ∀ lenW : Nat, i.WellFormed lenW = true → encode i < 2 ^ i.slot.width lenW

/-- F-CMD: two, ten, eight and LEN_W bits (30_encoding R91). -/
theorem encodeCommand_lt {op n lenW : Nat} (a : DevAddr) (sub : Byte) (ho : op < 4) (hn : n < 2 ^ lenW) :
    encodeCommand op a sub n < 2 ^ (20 + lenW) := by
  have ha := a.isLt
  have hs := sub.isLt
  have hn' : n + 1 ≤ 2 ^ lenW := hn
  have hm := Nat.mul_le_mul_right (2 ^ 20) hn'
  rw [Nat.pow_add, Nat.mul_comm (2 ^ 20)]
  unfold encodeCommand
  omega

theorem masterWrite (address : DevAddr) (subAddress : Byte) (length : Nat) : Statement (.masterWrite address subAddress length) :=
  fun _ h => encodeCommand_lt address subAddress (by decide) (of_decide_eq_true h)
theorem masterRead (address : DevAddr) (subAddress : Byte) (length : Nat) : Statement (.masterRead address subAddress length) :=
  fun _ h => encodeCommand_lt address subAddress (by decide) (of_decide_eq_true h)
theorem registerSlave (address : DevAddr) (subAddress : Byte) (length : Nat) : Statement (.registerSlave address subAddress length) :=
  fun _ h => encodeCommand_lt address subAddress (by decide) (of_decide_eq_true h)
theorem noCommand (address : DevAddr) (subAddress : Byte) (length : Nat) : Statement (.noCommand address subAddress length) :=
  fun _ h => encodeCommand_lt address subAddress (by decide) (of_decide_eq_true h)
theorem waitReq : Statement .waitReq := fun _ _ => by simp [encode, Instr.slot, Slot.width]
theorem waitAny : Statement .waitAny := fun _ _ => by simp [encode, Instr.slot, Slot.width]
theorem waitRdy : Statement .waitRdy := fun _ _ => by simp [encode, Instr.slot, Slot.width]
theorem waitIdle : Statement .waitIdle := fun _ _ => by simp [encode, Instr.slot, Slot.width]
theorem cwReset : Statement .cwReset := fun _ _ => BitVec.isLt _
theorem cwStartW : Statement .cwStartW := fun _ _ => BitVec.isLt _
theorem cwStopW (stop : StopFlag) : Statement (.cwStopW stop) := fun _ _ => BitVec.isLt _
theorem cwPivot (stop : StopFlag) : Statement (.cwPivot stop) := fun _ _ => BitVec.isLt _
theorem cwStartR : Statement .cwStartR := fun _ _ => BitVec.isLt _
theorem cwStopR (stop : StopFlag) : Statement (.cwStopR stop) := fun _ _ => BitVec.isLt _
theorem cwSlaveReset (hi : BitVec 4) (lo : BitVec 2) : Statement (.cwSlaveReset hi lo) :=
  fun _ _ => BitVec.isLt _
theorem cwSlaveEnable (hi : BitVec 3) (lo : BitVec 3) : Statement (.cwSlaveEnable hi lo) :=
  fun _ _ => BitVec.isLt _
theorem hdr10W (h : BitVec 2) : Statement (.hdr10W h) := fun _ _ => BitVec.isLt _
theorem hdr10R (h : BitVec 2) : Statement (.hdr10R h) := fun _ _ => BitVec.isLt _
theorem addr7W (a : BitVec 7) : Statement (.addr7W a) := fun _ _ => BitVec.isLt _
theorem addr7R (a : BitVec 7) : Statement (.addr7R a) := fun _ _ => BitVec.isLt _
theorem subaddrByte (b : Byte) : Statement (.subaddrByte b) := fun _ _ => BitVec.isLt _
theorem wdataByte (b : Byte) : Statement (.wdataByte b) := fun _ _ => BitVec.isLt _
theorem dummyByte : Statement .dummyByte := fun _ _ => by simp [encode, Instr.slot, Slot.width]
theorem stReqSpin (noAck ready : Bool) (low : BitVec 4) : Statement (.stReqSpin noAck ready low) :=
  fun _ _ => BitVec.isLt _
theorem stReqProceed (idle noAck ready : Bool) (low : BitVec 4) : Statement (.stReqProceed idle noAck ready low) :=
  fun _ _ => BitVec.isLt _
theorem stReqTerminal (noAck ready : Bool) (low : BitVec 4) : Statement (.stReqTerminal noAck ready low) :=
  fun _ _ => BitVec.isLt _
theorem stRdySpin (noAck req : Bool) (low : BitVec 4) : Statement (.stRdySpin noAck req low) :=
  fun _ _ => BitVec.isLt _
theorem stRdyAccept (req : Bool) (low : BitVec 4) : Statement (.stRdyAccept req low) :=
  fun _ _ => BitVec.isLt _
theorem stRdyAbortIdle (noAck ready req : Bool) (low : BitVec 4) : Statement (.stRdyAbortIdle noAck ready req low) :=
  fun _ _ => BitVec.isLt _
theorem stRdyAbortNack (req : Bool) (low : BitVec 4) : Statement (.stRdyAbortNack req low) :=
  fun _ _ => BitVec.isLt _
theorem stIdleSpin (noAck ready req : Bool) (low : BitVec 4) : Statement (.stIdleSpin noAck ready req low) :=
  fun _ _ => BitVec.isLt _
theorem stIdleEnd (noAck ready req : Bool) (low : BitVec 4) : Statement (.stIdleEnd noAck ready req low) :=
  fun _ _ => BitVec.isLt _

end Sys2Proof.Laws.EncodeFits
end

