-- ==== Sys2Proof/Laws/Step.lean ====
section
/-! SUPPORT. What a step can be: the delay that is due, an issued row, or a step of the sequencer; and the
step of each state that issues one fixed row or none. -/

namespace Sys2Proof.Machine

/-- A delay that is due is the next step (20_memory R73). -/
theorem step_setup {s : State} (h : s.setup = true) : step s = stepSetup s := by simp [step, h]

/-- With no delay due, the step executes what is issued. -/
theorem step_issued {s u : State} {i : Instr} (h : s.setup = false) (hi : issued s = some (i, u)) :
    step s = exec i u := by simp [step, h, hi]

/-- With no delay due and nothing issued, the step is the sequencer's. -/
theorem step_unissued {s : State} (h : s.setup = false) (hi : issued s = none) : step s = stepUnissued s := by
  simp [step, h, hi]

/-- The three kinds of step. -/
theorem step_cases (s : State) :
    (s.setup = true ∧ step s = stepSetup s)
      ∨ (s.setup = false ∧ ∃ i u, issued s = some (i, u) ∧ step s = exec i u)
      ∨ (s.setup = false ∧ issued s = none ∧ step s = stepUnissued s) := by
  cases h : s.setup
  · right
    cases hi : issued s with
    | none => right; exact ⟨rfl, rfl, step_unissued h hi⟩
    | some p => left; exact ⟨rfl, p.1, p.2, rfl, step_issued h hi⟩
  · left; exact ⟨rfl, step_setup h⟩

/-- In a transaction the row issued is the state's own, executed in the state itself. -/
theorem issued_busy {s : State} (h : s.seq ≠ .sIdle) : issued s = (issue s).map (fun i => (i, s)) := by
  simp [issued, h]

/-- In S_IDLE the row issued is the command presented. -/
theorem issued_idle {s : State} {c : HostCall} {rest : List HostCall} {i : Instr} (h : s.seq = .sIdle)
    (hc : s.calls = c :: rest) (hr : c.reset = false) (hd : decodeCommand s.cfg.lenW c.word = .ok i) :
    issued s = some (i, s.present c rest) := by
  simp [issued, h, hc, hr, hd, Except.toOption]

/-- In S_IDLE a block reset that comes before the next call is the step (70 R281). -/
theorem step_blockReset {s : State} {c : HostCall} {rest : List HostCall} (h : s.setup = false)
    (hq : s.seq = .sIdle) (hc : s.calls = c :: rest) (hr : c.reset = true) :
    step s = .next { s.blockReset with calls := { c with reset := false } :: rest } := by
  simp [step, h, issued, hq, hc, hr, stepUnissued, stepIdle, stepBlockReset]

section states
variable {s : State} (h : s.setup = false)
include h

theorem step_irqOff (hq : s.seq = .tIrqOff) : step s = .next ((s.setIe false).goto .tReset) := by
  simp [step, h, issued, issue, hq, stepUnissued, stepIrqOff]

theorem step_reset (hq : s.seq = .tReset) : step s = .next (s.writeCsr s.cfg.cwReset) := by
  simp [step, h, issued, issue, hq, exec, execCwReset]

theorem step_select (hq : s.seq = .apSel) :
    step s = .next (s.goto (if ten s.addr then .ap10Hdr else .ap7Addr)) := by
  simp [step, h, issued, issue, hq, stepUnissued, stepSelect]

theorem step_header (hq : s.seq = .ap10Hdr) :
    step s = .next (s.writeData (headerByte (addrHigh s.addr) false)) := by
  simp [step, h, issued, issue, hq, exec, execHdr10W]

theorem step_start10 (hq : s.seq = .ap10Start) : step s = .next (s.writeCsr s.cfg.cwStartW) := by
  simp [step, h, issued, issue, hq, exec, execCwStartW]

theorem step_low (hq : s.seq = .ap10Low) :
    step s = .next (s.writeData (addressByte (addrLow s.addr) false)) := by
  simp [step, h, issued, issue, hq, exec, execAddr7W]

theorem step_addr7 (hq : s.seq = .ap7Addr) :
    step s = .next (s.writeData (addressByte (addrLow s.addr) false)) := by
  simp [step, h, issued, issue, hq, exec, execAddr7W]

theorem step_start7 (hq : s.seq = .ap7Start) : step s = .next (s.writeCsr s.cfg.cwStartW) := by
  simp [step, h, issued, issue, hq, exec, execCwStartW]

theorem step_writeInit (hq : s.seq = .wInit) : step s = .next (({ s with idx := 0 }).goto .wTest) := by
  simp [step, h, issued, issue, hq, stepUnissued, stepWriteInit]

theorem step_writeTest (hq : s.seq = .wTest) :
    step s = .next (s.goto (if s.idx = s.len then .wFwait else .wWait)) := by
  simp [step, h, issued, issue, hq, stepUnissued, stepWriteTest]

theorem step_load (hq : s.seq = .wLoad) : step s = stepLoad s := by
  simp [step, h, issued, issue, hq, stepUnissued]

theorem step_byte (hq : s.seq = .wByte) : step s = .next (s.writeData s.v) := by
  simp [step, h, issued, issue, hq, exec, execWdataByte]

theorem step_writeInc (hq : s.seq = .wInc) :
    step s = .next (({ s with idx := s.idx + 1 }).goto .wTest) := by
  simp [step, h, issued, issue, hq, stepUnissued, stepWriteInc]

theorem step_stop (hq : s.seq = .wStop) : step s = .next (s.writeCsr s.cfg.cwStopW) := by
  simp [step, h, issued, issue, hq, exec, execCwStopW]

theorem step_sub (hq : s.seq = .rSub) : step s = .next (s.writeData s.subaddr) := by
  simp [step, h, issued, issue, hq, exec, execSubaddrByte]

theorem step_readdr (hq : s.seq = .rReaddr) :
    step s = .next (s.writeData
      (if ten s.addr then headerByte (addrHigh s.addr) true else addressByte (addrLow s.addr) true)) := by
  cases ht : ten s.addr <;> simp [step, h, issued, issue, hq, ht, exec, execHdr10R, execAddr7R]

theorem step_pivot (hq : s.seq = .rPivot) : step s = .next (s.writeCsr s.cfg.cwPivot) := by
  simp [step, h, issued, issue, hq, exec, execCwPivot]

theorem step_startR (hq : s.seq = .rStart) : step s = .next (s.writeCsr s.cfg.cwStartR) := by
  simp [step, h, issued, issue, hq, exec, execCwStartR]

theorem step_readInit (hq : s.seq = .rInit) : step s = .next (({ s with idx := 0 }).goto .rTest) := by
  simp [step, h, issued, issue, hq, stepUnissued, stepReadInit]

theorem step_readTest (hq : s.seq = .rTest) :
    step s = .next (s.goto
      (if s.idx = s.len then .rIdle else if s.cfg.lastStopBeforePoll then .rLstop else .rPoll)) := by
  simp [step, h, issued, issue, hq, stepUnissued, stepReadTest]

theorem step_lastStop (hq : s.seq = .rLstop) (hl : s.idx + 1 = s.len) :
    step s = .next (s.writeCsr s.cfg.cwStopR) := by
  simp [step, h, issued, issue, hq, hl, exec, execCwStopR]

theorem step_notLast (hq : s.seq = .rLstop) (hl : s.idx + 1 ≠ s.len) :
    step s = .next (s.goto (afterLstop s.cfg)) := by
  simp [step, h, issued, issue, hq, hl, stepUnissued, stepNotLast]

theorem step_fetch (hq : s.seq = .rFetch) : step s = .next (s.readData.goto .rStore) := by
  simp [step, h, issued, issue, hq, stepUnissued, stepFetch]

theorem step_store (hq : s.seq = .rStore) : step s = stepStore s := by
  simp [step, h, issued, issue, hq, stepUnissued]

theorem step_dummy (hq : s.seq = .rDummy) : step s = .next (s.writeData 0x00) := by
  simp [step, h, issued, issue, hq, exec, execDummyByte]

theorem step_readInc (hq : s.seq = .rInc) :
    step s = .next (({ s with idx := s.idx + 1 }).goto .rTest) := by
  simp [step, h, issued, issue, hq, stepUnissued, stepReadInc]

theorem step_ok (hq : s.seq = .tOk) : step s = .next (s.finish 0x00) := by
  simp [step, h, issued, issue, hq, stepUnissued, stepOk]

theorem step_abort (hq : s.seq = .tAbort) : step s = .next (s.finish s.abortStatus) := by
  simp [step, h, issued, issue, hq, stepUnissued, stepAbort]

theorem step_slaveConvey {w : RegWrite} {l : List SlAction} (hq : s.seq = .slPass)
    (hl : s.slActions = .convey w :: l) : step s = .next (s.convey w) := by
  simp [step, h, issued, issue, hq, hl, stepUnissued, stepSlave]

theorem step_slaveReset {l : List SlAction} (hq : s.seq = .slPass) (hl : s.slActions = .reset :: l) :
    step s = .next { s.writeCsr (slaveResetByte (namedHigh s.cfg.stop s.slResetHi) s.slResetLo) with
      slaveAddr := some s.slAddr } := by
  simp [step, h, issued, issue, hq, hl, exec, execCwSlaveReset]

theorem step_slaveAttach {l : List SlAction} (hq : s.seq = .slPass) (hl : s.slActions = .attach :: l) :
    step s = stepAttach s := by
  simp [step, h, issued, issue, hq, hl, stepUnissued, stepSlave]

theorem step_slaveEnable {l : List SlAction} (hq : s.seq = .slPass) (hl : s.slActions = .enable :: l) :
    step s = .next (s.writeCsr (slaveEnableByte (namedMid s.cfg.stop s.slEnableHi) s.slEnableLo)) := by
  simp [step, h, issued, issue, hq, hl, exec, execCwSlaveEnable]

end states

end Sys2Proof.Machine
end

