-- ==== Sys2Proof/Tests/Slice0.lean ====
section
/-! SUPPORT. The model's own tests. Words and expected values are written out from spec/ (the source of
each stands in its comment). The witness theorems show states and operands that meet the hypotheses of
an obligation, at the boundary of each clause. -/

namespace Sys2Proof.Tests

open Sys2Proof.Machine Sys2Proof.Safety

/-! Ill-formed instructions are refused: a length of LEN_W + 1 bits (30_encoding R91). -/

theorem test_illformed_masterWrite : (Instr.masterWrite 0x050 0 256).WellFormed 8 = false := by decide
theorem test_illformed_masterRead : (Instr.masterRead 0x050 0 256).WellFormed 8 = false := by decide
theorem test_illformed_registerSlave : (Instr.registerSlave 0x050 0 256).WellFormed 8 = false := by decide
theorem test_illformed_noCommand : (Instr.noCommand 0x050 0 256).WellFormed 8 = false := by decide
theorem test_wellformed_at_limit : (Instr.masterWrite 0x3FF 0xFF 255).WellFormed 8 = true := by decide

/-! Decoding: every constructor from a word written out bit by bit, length subAddress address op. -/

/-- 30_encoding R91, R92. -/
theorem test_decode_cmd :
    decode 8 .cmd 0b00000011_00010000_0001010000_01 = .ok (.masterWrite 0b0001010000 0x10 3)
      ∧ decode 8 .cmd 0b11111111_11000011_0101010101_10 = .ok (.masterRead 0x155 0xC3 255)
      ∧ decode 8 .cmd 0b00000000_00000000_0010000000_11 = .ok (.registerSlave 128 0 0)
      ∧ decode 8 .cmd 0b00000001_00000010_0000000011_00 = .ok (.noCommand 3 2 1) := by decide

/-- 30_encoding R99. -/
theorem test_decode_wmode :
    decode 8 .wmode 0b00 = .ok .waitReq ∧ decode 8 .wmode 0b01 = .ok .waitAny
      ∧ decode 8 .wmode 0b10 = .ok .waitRdy ∧ decode 8 .wmode 0b11 = .ok .waitIdle := by decide

/-- 30_encoding R93, R100: IRQ_ENABLE p q RESTART MASTER READ START SYNC_RESET. -/
theorem test_decode_master_words :
    decode 8 .csrMaster 0b00001001 = .ok .cwReset ∧ decode 8 .csrMaster 0b00001010 = .ok .cwStartW
      ∧ decode 8 .csrMaster 0b01001000 = .ok (.cwStopW .bit6)
      ∧ decode 8 .csrMaster 0b00101000 = .ok (.cwStopW .bit5)
      ∧ decode 8 .csrMaster 0b01011100 = .ok (.cwPivot .bit6)
      ∧ decode 8 .csrMaster 0b00001110 = .ok .cwStartR
      ∧ decode 8 .csrMaster 0b00101100 = .ok (.cwStopR .bit5) := by decide

/-- 30_encoding R103: `hhhh0ll1` and `1hhh0lll`. -/
theorem test_decode_slave_words :
    decode 8 .csrSlaveReset 0b10100101 = .ok (.cwSlaveReset 0b1010 0b10)
      ∧ decode 8 .csrSlaveEnable 0b11010011 = .ok (.cwSlaveEnable 0b101 0b011) := by decide

/-- 30_encoding R96, R97, R98, R111. -/
theorem test_decode_data_bytes :
    decode 8 .hdr10 0b11110_01_0 = .ok (.hdr10W 1) ∧ decode 8 .hdr10 0b11110_10_1 = .ok (.hdr10R 2)
      ∧ decode 8 .addr7 0b1010000_0 = .ok (.addr7W 0x50) ∧ decode 8 .addr7 0b1010001_1 = .ok (.addr7R 0x51)
      ∧ decode 8 .subaddr 0b11000011 = .ok (.subaddrByte 0xC3)
      ∧ decode 8 .wdata 0b10101010 = .ok (.wdataByte 0xAA) ∧ decode 8 .dummy 0 = .ok .dummyByte := by decide

/-- 30_encoding R94, R112: IDLE NO_ACK DATA_READY DATA_REQ, unnamed. -/
theorem test_decode_status_req :
    decode 8 .statusReq 0b0110_0001 = .ok (.stReqSpin true true 1)
      ∧ decode 8 .statusReq 0b1001_0010 = .ok (.stReqProceed true false false 2)
      ∧ decode 8 .statusReq 0b1100_1111 = .ok (.stReqTerminal true false 15) := by decide

/-- 30_encoding R113. -/
theorem test_decode_status_rdy :
    decode 8 .statusRdy 0b0101_0100 = .ok (.stRdySpin true true 4)
      ∧ decode 8 .statusRdy 0b0011_0000 = .ok (.stRdyAccept true 0)
      ∧ decode 8 .statusRdy 0b1010_1000 = .ok (.stRdyAbortIdle false true false 8)
      ∧ decode 8 .statusRdy 0b0110_0011 = .ok (.stRdyAbortNack false 3) := by decide

/-- 40 R138. -/
theorem test_decode_status_idle :
    decode 8 .statusIdle 0b0111_0000 = .ok (.stIdleSpin true true true 0)
      ∧ decode 8 .statusIdle 0b1000_0001 = .ok (.stIdleEnd false false false 1) := by decide

/-- What no row of a place matches is rejected by name: a STOP word without CSR_STOP or with both
candidates (R102), a word of no row (R100), a wrong header (R96), a word that does not fit (R90). -/
theorem test_decode_rejects :
    decode 8 .csrMaster 0x08 = .error .notOneStopFlag ∧ decode 8 .csrMaster 0x6C = .error .notOneStopFlag
      ∧ decode 8 .csrMaster 0x0B = .error .notMasterWord ∧ decode 8 .csrSlaveReset 0x09 = .error .notSlaveReset
      ∧ decode 8 .csrSlaveEnable 0x88 = .error .notSlaveEnable ∧ decode 8 .hdr10 0xE8 = .error .notHeader
      ∧ decode 8 .dummy 1 = .error .notDummy ∧ decode 8 .addr7 256 = .error .tooWide
      ∧ decode 8 .wmode 4 = .error .tooWide ∧ decode 8 .cmd (2 ^ 28) = .error .tooWide := by decide

/-- Words of the table read without a place (log 2). -/
theorem test_table_words :
    decodeTableWord 32 0x0200141 = some (.masterWrite 0x050 0 2) ∧ decodeTableWord 8 1 = some (.masterWrite 0 0 0)
      ∧ decodeTableWord 8 0x09 = some .cwReset ∧ decodeTableWord 8 0xF0 = some (.hdr10W 0)
      ∧ decodeTableWord 8 0x80 = some (.stReqTerminal false false 0) ∧ decodeTableWord 8 256 = none := by decide

/-! One step on small states. -/

def cfg : Config where
  stop := .bit6
  tSetup := 5
  tPoll := 7
  csrAddr := 0
  dataAddr := 1
  slaveIrqIndex := 3

/-- A buffer of two known bytes. -/
def two : Buffer := { id := 7, size := 2, bytes := [(0, 0xAA), (1, 0xBB)] }

/-- The ENGINE in state q of a transaction: ADDR 0x50, LEN 2, IDX 1, T as given, about to test it. -/
def mid (q : Seq) (op : BitVec 2) (t : Byte) : State :=
  { State.reset with
    cfg := cfg, seq := q, pseq := .pTest, busy := true, op := op, addr := 0x50, subaddr := 0x10
    len := 2, idx := 1, t := t, v := 0x5A, buf := two }

/-- The same, about to read the given answers. -/
def poll (q : Seq) (op : BitVec 2) (answers : List Byte) : State :=
  { mid q op 0 with pseq := .pRead, csrAnswers := answers }

/-- The idle ENGINE with a word presented and a buffer of two bytes. -/
def idle (w : Nat) : State :=
  { State.reset with cfg := cfg, calls := [{ word := w, offer := { buffer := two, callback := 9 } }] }

/-- The next state of a result has the property. -/
def next (r : Result) (p : State → Bool) : Bool :=
  match r with
  | .next t => p t
  | .fault _ => false
  | .refused _ => false

/-- The result is this refusal. -/
def refuses (r : Result) (q : Refusal) : Bool :=
  match r with
  | .next _ => false
  | .fault _ => false
  | .refused x => decide (x = q)

/-- 10_state R26 on the word of 95 E2: op 1, address 0x50, length 2. -/
theorem test_accept_write : next (step (idle 0x0200141))
    (fun t => t.seq = .tIrqOff && t.busy && t.op = 1 && t.addr = 0x50 && t.len = 2 && t.buf = two) = true := by
  decide

/-- 70 R286: length 3 with two bytes. -/
theorem test_accept_short : refuses (step (idle 0x0300142)) .bufferShorterThanLength = true := by decide

/-- 44 R232: REGISTER_SLAVE is refused by name. -/
theorem test_refuse_slave : refuses (step (idle 0x0000143)) .registerSlave = true := by decide

/-- The same parameters with the model's switch for the slave path on (log 13). -/
def slaveOn : Config := { cfg with slaveExecuted := true }

/-- 10_state R26: op 3 goes to SL_PASS. 44 R230: the callback is kept. 30_encoding R91: length is ignored. -/
theorem test_accept_slave : next (step { idle 0x0900143 with cfg := slaveOn })
    (fun t => t.seq = .slPass && t.busy && t.op = 3 && t.slAddr = 0x50 && t.slCallback = 9) = true := by decide

/-- 30_encoding R115: op 0 does nothing. -/
theorem test_no_command : next (step (idle 0x0000140)) (fun t => t.seq = .sIdle && !t.busy && t.op = 0) = true := by
  decide

/-- 40 R132: the read of a poll. -/
theorem test_poll_read : next (step (poll .wWait 1 [0x9F]))
    (fun t => t.t = 0x9F && t.pseq = .pDly && t.trace = [.csrRead 0x9F]) = true := by decide

/-- 40 R134, 60 R242: IDLE and NO_ACK without DATA_REQ abort a classified wait with the snapshot. -/
theorem test_req_terminal : next (step (mid .wWait 1 0xC0)) (fun t => t.seq = .tAbort && t.r = 0xC0) = true := by
  decide

/-- 60 R247: DATA_REQ wins over IDLE and NO_ACK. -/
theorem test_req_wins : next (step (mid .wWait 1 0xD0)) (fun t => t.seq = .wLoad && t.r = 0) = true := by decide

/-- 40 R140: NO_ACK alone spins. -/
theorem test_nack_spins : next (step (mid .wWait 1 0x40)) (fun t => t.seq = .wWait && t.pseq = .pRead) = true := by
  decide

/-- 42 R177: the final wait of a write ends on IDLE and does not abort. -/
theorem test_final_wait : next (step (mid .wFwait 1 0xC0)) (fun t => t.seq = .wStop) = true := by decide

/-- 43 R202, R204: DATA_READY with NO_ACK ends the poll and aborts in R_CHECK. -/
theorem test_ready_nack : next (step (mid .rPoll 2 0x60)) (fun t => t.seq = .rLstop) = true
    ∧ next (step (mid .rCheck 2 0x60)) (fun t => t.seq = .tAbort && t.abortStatus = 0x60) = true := by decide

/-- 43 R204: DATA_READY alone takes the byte. -/
theorem test_ready_accept : next (step (mid .rCheck 2 0x2F)) (fun t => t.seq = .rFetch) = true := by decide

/-- 43 R197: WAIT_IDLE goes on polling without IDLE and ends with it. -/
theorem test_idle_wait : next (step (mid .rPidle 2 0x70)) (fun t => t.seq = .rPidle && t.pseq = .pRead) = true
    ∧ next (step (mid .rPidle 2 0x80)) (fun t => t.seq = .rStart) = true := by decide

/-- 30_encoding R100: the words of a write at CSR_STOP = 0x40. -/
theorem test_words_written :
    next (step (mid .tReset 1 0)) (fun t => t.csrWrite = 0x09 && t.setup) = true
      ∧ next (step (mid .ap7Start 1 0)) (fun t => t.csrWrite = 0x0A) = true
      ∧ next (step (mid .wStop 1 0)) (fun t => t.csrWrite = 0x48) = true
      ∧ next (step (mid .rPivot 2 0)) (fun t => t.csrWrite = 0x5C) = true
      ∧ next (step (mid .rStart 2 0)) (fun t => t.csrWrite = 0x0E) = true
      ∧ next (step (mid .rLstop 2 0x20)) (fun t => t.csrWrite = 0x4C) = true := by decide

/-- 30_encoding R105 to R108 at ADDR 0x155 and 0x50: F2, F3, AA, and A0, A1. -/
theorem test_bytes_written :
    next (step { mid .ap10Hdr 1 0 with addr := 0x155 }) (fun t => t.dataWrite = 0xF2 && t.setup) = true
      ∧ next (step { mid .rReaddr 2 0 with addr := 0x155 }) (fun t => t.dataWrite = 0xF3) = true
      ∧ next (step { mid .ap10Low 1 0 with addr := 0x155 }) (fun t => t.dataWrite = 0xAA) = true
      ∧ next (step (mid .ap7Addr 1 0)) (fun t => t.dataWrite = 0xA0) = true
      ∧ next (step (mid .rReaddr 2 0)) (fun t => t.dataWrite = 0xA1) = true
      ∧ next (step (mid .rSub 2 0)) (fun t => t.dataWrite = 0x10) = true
      ∧ next (step (mid .wByte 1 0)) (fun t => t.dataWrite = 0x5A) = true
      ∧ next (step { mid .rDummy 2 0 with dataWrite := 1 }) (fun t => t.dataWrite = 0) = true := by decide

/-- SL_PASS of a device that conveys the address in a CSR word before the first word and a byte after it, the
open bits of both words all set (44 R231, log 14). -/
def slave : State :=
  { mid .slPass 3 0 with
    cfg := slaveOn, slAddr := 0x50, slCallback := 9, slActions := slavePlan [.csr 0xFF] [.data 0x33]
    slResetHi := 0xF, slResetLo := 3, slEnableHi := 7, slEnableLo := 7 }

/-- 30_encoding R103, R116: with every open bit set the slave words are 0xF7 less 0x20, for CSR_STOP = 0x40;
a conveying word likewise. -/
theorem test_slave_words :
    next (step { slave with slActions := [.reset, .attach, .enable] })
        (fun t => t.csrWrite = 0xD7 && t.slaveAddr = some 0x50) = true
      ∧ next (step { slave with slActions := [.enable] }) (fun t => t.csrWrite = 0xD7 && t.setup) = true
      ∧ next (step slave) (fun t => t.csrWrite = 0xDF && t.setup) = true := by decide

/-- 44 R231: the attach is an action, and after the last action BUSY is 0 in S_IDLE. -/
theorem test_slave_ends :
    next (step { slave with slActions := [.attach, .enable] })
        (fun t => t.attached = some 9 && t.trace = [.attach 3 9] && t.busy) = true
      ∧ next (step { slave with slActions := [.enable], setup := true }) (fun t => t.seq = .sIdle && !t.busy) = true := by
  decide

/-- 41 R152: 127 takes the 7-bit branch, 128 the 10-bit branch. -/
theorem test_select_boundary :
    next (step { mid .apSel 1 0 with addr := 127 }) (fun t => t.seq = .ap7Addr) = true
      ∧ next (step { mid .apSel 1 0 with addr := 128 }) (fun t => t.seq = .ap10Hdr) = true := by decide

/-- 42 R174, 43 R206: the byte at IDX is read; the byte at IDX is stored and no other. -/
theorem test_buffer :
    next (step (mid .wLoad 1 0)) (fun t => t.v = 0xBB && t.seq = .wByte) = true
      ∧ next (step (mid .rStore 2 0x20)) (fun t => t.buf.read 1 = 0x5A && t.buf.read 0 = 0xAA) = true := by decide

/-- 60 R245, R246: RET after each end. -/
theorem test_epilogue :
    next (step { mid .tOk 1 0 with ret := 1 }) (fun t => t.ret = 0 && t.ie && !t.busy && t.seq = .sIdle) = true
      ∧ next (step { mid .tAbort 1 0x60 with ie := false }) (fun t => t.ret = 0x60 && t.ie && !t.busy) = true := by
  decide

/-- After a transaction (60 R255: IE is 1), a block reset before the next call. -/
def finished : State :=
  { mid .sIdle 2 0x60 with
    busy := false, ie := true, ret := 0x60, csrWrite := 0x4C, dataWrite := 0x5A, trace := [.ieWrite true]
    calls := [{ word := 0x0200141, offer := { buffer := two, callback := 9 }, reset := true }] }

/-- 70 R280, R281: block reset leaves IE, the buffer, CSR and DATA as they were and makes no external action;
PSEQ is P_READ, and the call is still to be made. -/
theorem test_block_reset : next (step finished)
    (fun t => t.seq = .sIdle && t.pseq = .pRead && !t.busy && t.ie && t.buf = two && t.csrWrite = 0x4C
      && t.dataWrite = 0x5A && t.trace = [.ieWrite true] && t.calls.length = 1) = true := by decide

/-! Witnesses: the hypotheses of each obligation are met together. -/

theorem witness_ResetIsIdle : finished.setup = false ∧ finished.seq = .sIdle
    ∧ finished.calls = { word := 0x0200141, offer := { buffer := two, callback := 9 }, reset := true } :: []
    ∧ Inv finished := by
  refine ⟨by decide, by decide, by decide, ?_⟩
  constructor <;> decide

theorem witness_EncodeOfDecode : decode 8 .addr7 0xA1 = .ok (.addr7R 0x50) ∧ decode 8 .cmd 0 = .ok (.noCommand 0 0 0)
    ∧ decode 8 .cmd (2 ^ 28 - 1) = .ok (.registerSlave 0x3FF 0xFF 255) := by decide

theorem witness_DecodeOfEncode : (Instr.masterRead 0x155 0xC3 255).WellFormed 8 = true
    ∧ (Instr.stIdleEnd true false true 15).WellFormed 8 = true := by decide

theorem witness_PlacedWordIsIssued : decodeTableWord 8 0xA1 = some (.cwSlaveReset 10 0)
    ∧ decodeTableWord 32 0xFFFFFFF = some (.registerSlave 0x3FF 0xFF 255) := by decide

theorem witness_StepRunsDecodedInstruction :
    ((idle 0x0200141).setup = false ∧ (idle 0x0200141).seq = .sIdle ∧ (idle 0x0200141).calls ≠ []
      ∧ decode 8 .cmd 0x0200141 = .ok (.masterWrite 0x50 0 2)
      ∧ ∀ c ∈ (idle 0x0200141).calls, c.reset = false)
      ∧ ((mid .wWait 1 0xC0).setup = false ∧ waitMode cfg .wWait = some .req ∧ (mid .wWait 1 0xC0).pseq = .pTest
        ∧ decode 8 .statusReq 0xC0 = .ok (.stReqTerminal true false 0))
      ∧ ((poll .rPoll 2 []).pseq ≠ .pTest ∧ waitMode cfg .rPoll = some .rdy)
      ∧ ((mid .rCheck 2 0x20).seq = .rCheck ∧ decode 8 .statusRdy 0x20 = .ok (.stRdyAccept false 0))
      ∧ ((mid .rSub 2 0).seq ≠ .sIdle ∧ issue (mid .rSub 2 0) = some (.subaddrByte 0x10)) := by decide

theorem witness_IdleWithoutCommand :
    ({ idle 0 with calls := [] }).calls = [] ∧ (idle (2 ^ 28)).seq = .sIdle ∧ 2 ^ (20 + cfg.lenW) ≤ 2 ^ 28
    ∧ ∀ c ∈ (idle (2 ^ 28)).calls, c.reset = false := by decide

/-- The accesses after which a delay is due, and one step of every kind that makes an action. -/
theorem witness_OneActionPerStep :
    (∃ t, step (mid .tReset 1 0) = .next t ∧ t.trace = [.csrWrite 0x09])
      ∧ (∃ t, step (mid .tIrqOff 1 0) = .next t ∧ t.trace = [.ieWrite false]) :=
  ⟨⟨_, rfl, by decide⟩, ⟨_, rfl, by decide⟩⟩

theorem witness_DelayFollowsAccess :
    (∃ t, step (mid .wStop 1 0) = .next t ∧ t.trace = [.csrWrite 0x48])
      ∧ (∃ t, step (mid .rSub 2 0) = .next t ∧ t.trace = [.dataWrite 0x10])
      ∧ (∃ t, step (poll .wIdle 1 [0x80]) = .next t ∧ t.trace = [.csrRead 0x80]) :=
  ⟨⟨_, rfl, by decide⟩, ⟨_, rfl, by decide⟩, ⟨_, rfl, by decide⟩⟩

/-- A command stands on the interface: length equal to the buffer's size, one more, and a busy ENGINE. -/
def offered (q : Seq) : State := { mid q 1 0 with offer := { buffer := two, callback := 9 } }

theorem witness_CommandsAccepted : (offered .sIdle).seq = .sIdle ∧ 2 ≤ (offered .sIdle).offer.buffer.size
    ∧ ({ offered .sIdle with cfg := slaveOn }).cfg.slaveExecuted = true := by decide

theorem witness_SlaveRefused : (offered .sIdle).seq = .sIdle ∧ (offered .sIdle).cfg.slaveExecuted = false := by
  decide

theorem witness_CommandIgnoredWhileBusy : (offered .wWait).seq ≠ .sIdle := by decide

theorem witness_ShortBufferRefused : (offered .sIdle).seq = .sIdle ∧ (offered .sIdle).offer.buffer.size < 3 := by
  decide

theorem witness_SlavePassRun : slave.setup = false ∧ slave.seq = .slPass
    ∧ slave.slActions = slavePlan [.csr 0xFF] [.data 0x33]
    ∧ ({ slave with slActions := [.reset, .attach, .enable] }).slActions = slavePlan [] [] := by decide

theorem witness_PollSteps : (poll .wWait 1 [0x10]).pseq = .pRead
    ∧ ({ mid .wWait 1 0 with pseq := .pDly }).pseq = .pDly
    ∧ ((mid .wWait 1 0x6F).pseq = .pTest ∧ (mid .wWait 1 0x6F).t &&& 0x90 = 0)
    ∧ (mid .rPoll 2 0x5F).t &&& 0xA0 = 0 ∧ (mid .rIdle 2 0x7F).t &&& 0x80 = 0 := by decide

/-- The snapshots of the clauses: DATA_REQ set, and IDLE without it. -/
theorem witness_WaitReqExit :
    ((mid .wWait 1 0x10).pseq = .pTest ∧ (mid .wWait 1 0x10).t &&& 0x90 ≠ 0 ∧ (mid .wWait 1 0x10).t &&& 0x10 ≠ 0)
      ∧ ((mid .wWait 1 0x80).t &&& 0x90 ≠ 0 ∧ (mid .wWait 1 0x80).t &&& 0x10 = 0) := by decide

theorem witness_UnclassifiedWaitExit : (mid .wFwait 1 0x80).pseq = .pTest ∧ (mid .wFwait 1 0x80).t &&& 0x90 ≠ 0
    ∧ (mid .rPoll 2 0x20).t &&& 0xA0 ≠ 0 ∧ (mid .rIdle 2 0x80).t &&& 0x80 ≠ 0 := by decide

theorem witness_ClassAgreesWithMode : waitMode cfg (mid .rPoll 2 0x60).seq = some .rdy
    ∧ (mid .rPoll 2 0x60).pseq = .pTest := by decide

theorem witness_WaitReqResult : (mid .wWait 1 0xC0).t &&& 0x90 ≠ 0
    ∧ ∃ t, exec .waitReq (mid .wWait 1 0xC0) = .next t ∧ t.r = 0xC0 := ⟨by decide, _, rfl, by decide⟩

theorem witness_NackAloneSpins : waitMode cfg (mid .wWait 1 0x40).seq = some .req
    ∧ (mid .wWait 1 0x40).t &&& 0x40 ≠ 0 ∧ (mid .wWait 1 0x40).t &&& WMode.req.mask = 0
    ∧ (mid .rIdle 2 0x40).t &&& WMode.idle.mask = 0 := by decide

theorem witness_ClassifiedWaitSuccessors :
    ∀ q ∈ [Seq.ap10Wait, .wWait, .rWait1, .rWait2, .rWait3], (mid q 1 0x10).seq = q ∧ (mid q 1 0x10).pseq = .pTest
      ∧ (mid q 1 0x10).setup = false ∧ (mid q 1 0x10).t &&& 0x10 ≠ 0 ∧ (mid q 1 0xEF).t &&& 0x90 = 0x80 := by decide

/-- The two switches turned on. -/
def switched (q : Seq) (t : Byte) : State :=
  { mid q 1 t with cfg := { cfg with finalWaitAborts := true, lastStopBeforePoll := true } }

theorem witness_UnclassifiedWaitSuccessors :
    cfg.finalWaitAborts = false ∧ cfg.lastStopBeforePoll = false ∧
      (∀ q ∈ [Seq.wFwait, .wIdle, .rPidle, .rPoll, .rIdle], (mid q 1 0x80).seq = q ∧ (mid q 1 0x80).pseq = .pTest
        ∧ (mid q 1 0x80).t &&& 0x90 ≠ 0 ∧ (mid q 1 0x80).t &&& 0xA0 ≠ 0 ∧ (mid q 1 0x80).t &&& 0x80 ≠ 0)
      ∧ ∀ q ∈ [Seq.wIdle, .rPidle, .rIdle], (switched q 0x80).seq = q ∧ q ≠ .wFwait ∧ q ≠ .rPoll := by decide

theorem witness_SwitchedWaitSuccessors :
    ((switched .wFwait 0x10).cfg.finalWaitAborts = true ∧ (switched .wFwait 0x10).seq = .wFwait
      ∧ (switched .wFwait 0x10).t &&& 0x10 ≠ 0 ∧ (switched .wFwait 0x80).t &&& 0x90 = 0x80)
      ∧ ((switched .rPoll 0x20).cfg.lastStopBeforePoll = true ∧ (switched .rPoll 0x20).seq = .rPoll
        ∧ (switched .rPoll 0x20).t &&& 0xA0 ≠ 0)
      ∧ ((switched .rTest 0).seq = .rTest ∧ (switched .rTest 0).setup = false)
      ∧ ((switched .rLstop 0).seq = .rLstop ∧ (switched .rLstop 0).idx + 1 = (switched .rLstop 0).len)
      ∧ ({ switched .rLstop 0 with idx := 0 }).idx + 1 ≠ (switched .rLstop 0).len := by decide

theorem witness_StuckBusSpins : waitMode cfg (poll .wWait 1 [0x40, 0x6F, 0x10]).seq = some .req
    ∧ (poll .wWait 1 [0x40, 0x6F, 0x10]).pseq = .pRead
    ∧ (poll .wWait 1 [0x40, 0x6F, 0x10]).csrAnswers = [0x40, 0x6F] ++ [0x10]
    ∧ ∀ a ∈ [(0x40 : Byte), 0x6F], a &&& WMode.req.mask = 0 := by decide

theorem witness_AnsweredWaitEnds : waitMode cfg (poll .rPoll 2 [0x60]).seq = some .rdy
    ∧ (poll .rPoll 2 [0x60]).pseq = .pRead ∧ (poll .rPoll 2 [0x60]).csrView &&& WMode.rdy.mask ≠ 0 := by decide

theorem witness_SpinClasses : (mid .rPoll 2 0).seq ≠ .rCheck := by decide

theorem witness_RequestClasses : waitMode cfg (mid .wWait 1 0).seq = some .req
    ∧ waitMode cfg (mid .wFwait 1 0).seq = some .any := by decide

theorem witness_ReadyAndIdleClasses : (mid .rPoll 2 0x20).seq = .rPoll ∧ (mid .rCheck 2 0x20).seq = .rCheck := by
  decide

theorem witness_CheckSnapshotOfRead : (mid .rCheck 2 0x60).setup = false ∧ (mid .rCheck 2 0x60).seq = .rCheck
    ∧ (mid .rCheck 2 0x60).t &&& 0xC0 ≠ 0 ∧ (mid .rCheck 2 0x3F).t &&& 0xC0 = 0 := by decide

theorem witness_CommandWordsWritten : defaultWords cfg = true ∧ cfg.stop = .bit6
    ∧ (Instr.cwPivot .bit6, (0x5C : Byte)) ∈ [(Instr.cwPivot .bit6, cfg.cwPivot)] := by decide

/-- A word of each kind: the reset word, a STOP word, the pivot, and a word of the slave path. -/
theorem witness_CommandWordComposition : defaultWords cfg = true
    ∧ (∃ t, step (mid .tReset 1 0) = .next t ∧ t.trace = [.csrWrite 0x09])
    ∧ (∃ t, step (mid .wStop 1 0) = .next t ∧ t.trace = [.csrWrite 0x48])
    ∧ (∃ t, step (mid .rPivot 2 0) = .next t ∧ t.trace = [.csrWrite 0x5C])
    ∧ ∃ t, step slave = .next t ∧ t.trace = [.csrWrite 0xDF] :=
  ⟨by decide, ⟨_, rfl, by decide⟩, ⟨_, rfl, by decide⟩, ⟨_, rfl, by decide⟩, _, rfl, by decide⟩

/-- The bytes of ADDR[9:8] = 3 and ADDR[6:0] = 0x7F. -/
theorem witness_DataBytesWritten :
    (Instr.hdr10R 3, (0xF7 : Byte)) ∈ [(Instr.hdr10R 3, 0xF1 ||| ((3 : BitVec 2).setWidth 8 <<< 1))]
      ∧ (Instr.addr7R 0x7F, (0xFF : Byte)) ∈ [(Instr.addr7R 0x7F, ((0x7F : BitVec 7).setWidth 8 <<< 1) ||| 0x01)] := by
  decide

theorem witness_SlaveWordsWritten :
    (0xF7 : Byte).toNat = encode (.cwSlaveReset 15 3) ∧ (0xF7 : Byte).toNat = encode (.cwSlaveEnable 7 7) := by decide

/-- For AddressPhaseStates and BodyWriteStates: each state of the address phase and of the two bodies, with no
delay due; R_LSTOP at IDX + 1 = LEN and before it. -/
theorem witness_RegisterWriteStates :
    (∀ q ∈ [Seq.tReset, .ap10Hdr, .ap10Start, .ap10Low, .ap7Addr, .ap7Start, .wByte, .wStop, .rSub, .rReaddr,
      .rPivot, .rStart, .rDummy], (mid q 1 0).setup = false ∧ (mid q 1 0).seq = q)
      ∧ ((mid .rLstop 2 0x20).idx + 1 = (mid .rLstop 2 0x20).len)
      ∧ ({ mid .rLstop 2 0x20 with idx := 0 }).idx + 1 ≠ (mid .rLstop 2 0x20).len := by decide

/-- For PrologueSteps, LoopCounterSteps, LoadAndFetch and EpilogueSteps. -/
theorem witness_SequencerStates :
    ∀ q ∈ [Seq.tIrqOff, .apSel, .wInit, .wTest, .wInc, .rInit, .rTest, .rInc, .rFetch, .tOk, .tAbort],
      (mid q 1 0).setup = false ∧ (mid q 1 0).seq = q ∧ (mid q 1 0).abortSrc = .t
        ∧ ({ mid q 1 0 with abortSrc := .r }).abortSrc = .r := by decide

/-- For LoadAndFetch and StoreWritesOneByte, at the last index of the buffer. -/
theorem witness_BufferStates :
    ∀ q ∈ [Seq.wLoad, .rStore], (mid q 1 0).setup = false ∧ (mid q 1 0).seq = q ∧ (mid q 1 0).idx < (mid q 1 0).len
      ∧ (mid q 1 0).idx < (mid q 1 0).buf.size ∧ (mid q 1 0).buf.wf = true := by decide

/-- A state of a write at the last byte meets the invariant (42 R176: IDX + 1 = LEN). -/
theorem witness_IncrementDoesNotWrap : Inv (mid .wInc 1 0) ∧ (mid .wInc 1 0).setup = false
    ∧ (mid .wInc 1 0).seq = .wInc :=
  ⟨(by constructor <;> decide),
    by decide, by decide⟩

/-- For StepKeepsInvariant and InvariantIsSafe: a state of a read that has accepted its last byte meets the
invariant, and steps. -/
theorem witness_StepKeepsInvariant : Inv (mid .rStore 2 0x2F)
    ∧ ∃ t, step (mid .rStore 2 0x2F) = .next t ∧ t.seq = .rDummy :=
  ⟨(by constructor <;> decide),
    _, rfl, by decide⟩

theorem witness_OnlyListedStatesAbort :
    (∃ t, step (mid .rWait2 2 0x80) = .next t ∧ t.seq = .tAbort)
      ∧ (∃ t, step (switched .wFwait 0xC0) = .next t ∧ t.seq = .tAbort)
      ∧ (∃ t, step (mid .rCheck 2 0x40) = .next t ∧ t.seq = .tAbort) :=
  ⟨⟨_, rfl, by decide⟩, ⟨_, rfl, by decide⟩, ⟨_, rfl, by decide⟩⟩

theorem witness_OnlyBracketWritesIe :
    (∃ t, step { mid .tIrqOff 1 0 with ie := true } = .next t ∧ t.ie = false ∧ t.trace = [.ieWrite false])
      ∧ (∃ t, step (mid .tOk 1 0) = .next t ∧ t.ie = true ∧ t.trace = [.ieWrite true]) :=
  ⟨⟨_, rfl, by decide⟩, ⟨_, rfl, by decide⟩⟩

theorem witness_WritersAndReaders :
    (∃ t, step (mid .tAbort 1 0x60) = .next t ∧ t.ret ≠ (mid .tAbort 1 0x60).ret)
      ∧ (∃ t, step (mid .rStore 2 0x20) = .next t ∧ t.buf ≠ two)
      ∧ (∃ t, step (poll .rIdle 2 [0]) = .next t ∧ t.csrReads ≠ 0)
      ∧ (∃ t, step { mid .rFetch 2 0x20 with dataAnswers := [1] } = .next t ∧ t.dataReads ≠ 0)
      ∧ (∃ t, step finished = .next t ∧ t.ret ≠ finished.ret) :=
  ⟨⟨_, rfl, by decide⟩, ⟨_, rfl, by decide⟩, ⟨_, rfl, by decide⟩, ⟨_, rfl, by decide⟩, ⟨_, rfl, by decide⟩⟩

theorem witness_InstructionFrame :
    (∃ t, exec (.subaddrByte 3) (mid .rSub 2 0) = .next t ∧ t.dataWrite = 3) ∧ (Instr.subaddrByte 3).slot ≠ .cmd
      ∧ (∃ t, exec (.masterRead 5 6 2) (offered .sIdle) = .next t ∧ t.buf = two)
      ∧ (Instr.masterRead 5 6 2).slot = .cmd := ⟨⟨_, rfl, by decide⟩, by decide, ⟨_, rfl, by decide⟩, by decide⟩

/-- The end of a write and the abort of a read meet the invariant; each ends its transaction. -/
theorem witness_RetTellsThePath :
    (Inv { mid .tOk 1 0x80 with idx := 2 } ∧ ∃ t, step { mid .tOk 1 0x80 with idx := 2 } = .next t ∧ t.busy = false)
      ∧ (Inv (mid .tAbort 2 0x60) ∧ ∃ t, step (mid .tAbort 2 0x60) = .next t ∧ t.busy = false ∧ t.ret = 0x60) :=
  ⟨⟨(by constructor <;> decide),
      _, rfl, by decide⟩,
    ⟨(by constructor <;> decide),
      _, rfl, by decide⟩⟩

theorem witness_LowNibbleIsNotTested : (0x8F : Byte) &&& 0xF0 = (mid .wWait 1 0x80).t &&& 0xF0
    ∧ ∃ t, step (mid .wWait 1 0x80) = .next t ∧ t.seq = .tAbort := ⟨by decide, _, rfl, by decide⟩

/-- Addresses 0x100 and 0x180, which differ in bit 7 only, at the two steps of AP10_LOW. -/
theorem witness_AddressBitSevenUnseen :
    (0x180 : DevAddr).toNat > 127 ∧ (0x100 : DevAddr).toNat > 127
      ∧ (0x100 : DevAddr) &&& 0x37F = (0x180 : DevAddr) &&& 0x37F
      ∧ (∀ j, j < 1 → ∃ u, steps j { mid .ap10Low 1 0 with addr := 0x180 } = .next u ∧ u.seq ≠ .sIdle)
      ∧ ∃ t, steps 1 { mid .ap10Low 1 0 with addr := 0x180 } = .next t ∧ t.dataWrite = 0 :=
  ⟨by decide, by decide, by decide,
    fun j hj => by obtain rfl : j = 0 := by omega
                   exact ⟨_, rfl, by decide⟩,
    _, rfl, by decide⟩

/-- The last wait of a write of two bytes, one poll from its end: in state, in mode, and answered. -/
theorem witness_TransactionEnds :
    Inv { poll .wIdle 1 [0x80] with idx := 2 } ∧ inMaster (poll .wIdle 1 [0x80]).seq = true
      ∧ PeripheralAnswers { poll .wIdle 1 [0x80] with idx := 2 } := by
  refine ⟨(by constructor <;> decide), by decide, ?_⟩
  have still : ∀ u : State, u.setup = false → u.seq = .sIdle → u.calls = [] → ∀ n, steps n u = .next u := by
    intro u h hq hc n
    induction n with
    | zero => rfl
    | succ n ih => simp [steps, step, h, hq, hc, issued, stepUnissued, stepIdle, ih]
  intro n t m hn hm hp
  match n with
  | 0 => cases hn; exact ⟨0, by cases hm; decide⟩
  | 1 => cases hn; exact absurd hp (by decide)
  | 2 => cases hn; exact absurd hp (by decide)
  | 3 =>
    cases hn
    have none : waitMode cfg .tOk ≠ some m := by simp [waitMode]
    exact absurd hm none
  | k + 4 =>
    obtain ⟨u, hu, h, hq, hc⟩ : ∃ u, (∀ j, steps (j + 4) { poll .wIdle 1 [0x80] with idx := 2 } = steps j u)
        ∧ u.setup = false ∧ u.seq = .sIdle ∧ u.calls = [] := ⟨_, fun _ => rfl, by decide, by decide, by decide⟩
    rw [hu, still u h hq hc] at hn
    cases hn
    rw [hq] at hm
    cases hm

theorem witness_SevenBitAddressPhase : (mid .tIrqOff 1 0).setup = false ∧ (mid .tIrqOff 1 0).seq = .tIrqOff
    ∧ ({ mid .tIrqOff 1 0 with addr := 127 }).addr.toNat ≤ 127 := by decide

theorem witness_TenBitAddressPhase : ({ poll .tIrqOff 2 [0x10] with addr := 128 }).addr.toNat > 127
    ∧ (poll .tIrqOff 2 [0x10]).csrView &&& 0x10 ≠ 0 ∧ (poll .tIrqOff 2 [0x10]).seq = .tIrqOff := by decide

/-- In both readings: the snapshot in T, and the answer to come. -/
theorem witness_FinalByteAbortFollowsStop :
    ((mid .rLstop 2 0x60).setup = false ∧ (mid .rLstop 2 0x60).seq = .rLstop
      ∧ (mid .rLstop 2 0x60).cfg.lastStopBeforePoll = false
      ∧ (mid .rLstop 2 0x60).idx + 1 = (mid .rLstop 2 0x60).len ∧ (mid .rLstop 2 0x60).t &&& 0xC0 ≠ 0)
      ∧ ((switched .rLstop 0).setup = false ∧ (switched .rLstop 0).cfg.lastStopBeforePoll = true
        ∧ (switched .rLstop 0).idx + 1 = (switched .rLstop 0).len
        ∧ ({ switched .rLstop 0 with csrAnswers := [0x60] }).csrView &&& 0xC0 ≠ 0
        ∧ ({ switched .rLstop 0 with csrAnswers := [0x60] }).csrView &&& 0xA0 ≠ 0) := by decide

/-- 95 E2 as a whole state: the idle ENGINE, 0x0200141 presented with two bytes, three answers with DATA_REQ, one
with IDLE, and one more; and a block reset before it. -/
def writing (reset : Bool) : State :=
  { idle 0x0200141 with
    calls := [{ word := 0x0200141, offer := { buffer := two, callback := 9 }, reset := reset }]
    csrAnswers := [0x10, 0x50, 0x90] ++ 0x80 :: [0x33] }

theorem witness_MasterWriteSucceeds : ∀ reset ∈ [false, true],
    (writing reset).setup = false ∧ (writing reset).seq = .sIdle
      ∧ (writing reset).calls = { word := 0x0200141, offer := { buffer := two, callback := 9 }, reset := reset } :: []
      ∧ decodeCommand (writing reset).cfg.lenW 0x0200141 = .ok (.masterWrite 0x50 0 2) ∧ 2 ≤ two.size
      ∧ (∀ x ∈ [(0x10 : Byte), 0x50, 0x90], x &&& 0x10 ≠ 0)
      ∧ [(0x10 : Byte), 0x50, 0x90].length = (if ten 0x50 then 1 else 0) + 2 + 1
      ∧ (0x80 : Byte) &&& 0x80 ≠ 0
      ∧ (writing reset).csrAnswers = [0x10, 0x50, 0x90] ++ 0x80 :: [0x33] := by decide

/-- The boundary of the address ranges: a write of no byte to address 128. -/
theorem witness_MasterWriteSucceeds_ten :
    decodeCommand 8 0x0000201 = .ok (.masterWrite 128 0 0) ∧ (idle 0x0000201).seq = .sIdle
      ∧ [(0x10 : Byte), 0x50].length = (if ten 128 then 1 else 0) + 0 + 1 := by decide

/-- A read of two bytes from address 0x50 as a whole state; its buffer has exactly two. -/
def reading : State :=
  { idle 0x0210142 with
    csrAnswers := [0x10, 0x1F] ++ 0x81 :: 0x10 :: ([0x20, 0x3F] ++ 0x80 :: [0x33])
    dataAnswers := [0x5A, 0xA5] ++ [0x77] }

theorem witness_MasterReadSucceeds :
    reading.setup = false ∧ reading.seq = .sIdle
      ∧ reading.calls = { word := 0x0210142, offer := { buffer := two, callback := 9 } } :: []
      ∧ decodeCommand reading.cfg.lenW 0x0210142 = .ok (.masterRead 0x50 0x10 2) ∧ 2 ≤ two.size
      ∧ (∀ x ∈ [(0x10 : Byte), 0x1F], x &&& 0x10 ≠ 0)
      ∧ [(0x10 : Byte), 0x1F].length = (if ten 0x50 then 1 else 0) + 2
      ∧ (0x81 : Byte) &&& 0x80 ≠ 0 ∧ (0x10 : Byte) &&& 0x10 ≠ 0
      ∧ (∀ x ∈ [(0x20 : Byte), 0x3F], x &&& 0xE0 = 0x20)
      ∧ [(0x20 : Byte), 0x3F].length = 2 ∧ [(0x5A : Byte), 0xA5].length = 2 ∧ (0x80 : Byte) &&& 0x80 ≠ 0
      ∧ reading.csrAnswers = [0x10, 0x1F] ++ 0x81 :: 0x10 :: ([0x20, 0x3F] ++ 0x80 :: [0x33])
      ∧ reading.dataAnswers = [0x5A, 0xA5] ++ [0x77] := by decide

/-- The boundaries: a read of no byte from address 128. -/
theorem witness_MasterReadSucceeds_ten :
    decodeCommand 8 0x0010202 = .ok (.masterRead 128 0x10 0) ∧ (idle 0x0010202).seq = .sIdle
      ∧ [(0x10 : Byte), 0x1F, 0x90].length = (if ten 128 then 1 else 0) + 2 := by decide

end Sys2Proof.Tests
end

section
/-! The external actions of one step (00_scope R6): which operations leave the trace as it is, and that
no row of the opcode table and no step of the sequencer appends more than one action to it. -/

namespace Sys2Proof.Machine

/-! The trace after the shared operations. -/

@[simp] theorem State.nextSlave_trace (s : State) : s.nextSlave.trace = s.trace := by
  obtain ⟨-, h⟩ | ⟨-, h⟩ := s.nextSlave_cases <;> rw [h]

@[simp] theorem State.endWait_trace (s : State) : s.endWait.trace = s.trace := rfl

@[simp] theorem State.endClassified_trace (s : State) : s.endClassified.trace = s.trace := by
  obtain ⟨-, h⟩ | ⟨-, h⟩ := s.endClassified_cases <;> simp [h]

@[simp] theorem State.pollRead_trace (s : State) : s.pollRead.trace = .csrRead s.csrView :: s.trace := rfl

@[simp] theorem State.pollDelay_trace (s : State) : s.pollDelay.trace = .delay s.cfg.tPoll :: s.trace := rfl

@[simp] theorem State.pollAgain_trace (s : State) : s.pollAgain.trace = s.trace := rfl

@[simp] theorem State.pollTest_trace (s : State) (m : WMode) : (s.pollTest m).trace = s.trace := by
  obtain ⟨-, h⟩ | ⟨-, -, h⟩ | ⟨-, -, h⟩ := s.pollTest_cases m <;> simp [h]

@[simp] theorem State.checkSnapshot_trace (s : State) : s.checkSnapshot.trace = s.trace := by
  obtain ⟨-, h⟩ | ⟨-, h⟩ := s.checkSnapshot_cases <;> simp [h]

@[simp] theorem State.finish_trace (s : State) (x : Byte) :
    (s.finish x).trace = .ieWrite true :: s.trace := rfl

/-! Acceptance of a command makes no external action (10_state R26). -/

theorem State.acceptMaster_trace {s t : State} {op : BitVec 2} {a : DevAddr} {sub : Byte} {n : Nat}
    (h : s.acceptMaster op a sub n = .next t) : t.trace = s.trace := by
  obtain ⟨-, rfl⟩ | ⟨-, -, rfl⟩ := State.acceptMaster_next h <;> rfl

theorem execRegisterSlave_trace {s t : State} {a : DevAddr} {sub : Byte} {n : Nat}
    (h : execRegisterSlave a sub n s = .next t) : t.trace = s.trace := by
  unfold execRegisterSlave at h
  split at h
  · cases h; rfl
  · split at h <;> cases h
    rfl

/-- What is issued is the command presented to the idle ENGINE, or the row of the state itself. -/
theorem issued_cases {s u : State} {i : Instr} (h : issued s = some (i, u)) :
    (s.seq = .sIdle ∧ ∃ c rest, s.calls = c :: rest ∧ c.reset = false
        ∧ decodeCommand s.cfg.lenW c.word = .ok i ∧ u = s.present c rest)
      ∨ (s.seq ≠ .sIdle ∧ issue s = some i ∧ u = s) := by
  by_cases hq : s.seq = .sIdle
  · left
    cases hc : s.calls with
    | nil => simp [issued, hq, hc] at h
    | cons c rest =>
      cases hd : decodeCommand s.cfg.lenW c.word <;> simp [issued, hq, hc, hd, Except.toOption] at h
      obtain ⟨hr, rfl, rfl⟩ := h
      exact ⟨hq, c, rest, rfl, hr, hd, rfl⟩
  · right
    rw [issued_busy hq] at h
    obtain ⟨_, hi, hu⟩ := Option.map_eq_some_iff.mp h
    cases hu
    exact ⟨hq, hi, rfl⟩

/-- Presenting the command that is issued makes no external action. -/
theorem issued_trace {s u : State} {i : Instr} (h : issued s = some (i, u)) : u.trace = s.trace := by
  obtain ⟨-, c, rest, -, -, -, rfl⟩ | ⟨-, -, rfl⟩ := issued_cases h <;> rfl

/-! At most one action. -/

/-- From s to t the ENGINE has made no external action, or one. -/
def AtMostOneAction (s t : State) : Prop := t.trace = s.trace ∨ ∃ a, t.trace = a :: s.trace

namespace AtMostOneAction

theorem of_same {s t : State} (h : t.trace = s.trace) : AtMostOneAction s t := .inl h

theorem of_cons {s t : State} {a : Action} (h : t.trace = a :: s.trace) : AtMostOneAction s t := .inr ⟨a, h⟩

/-- Presenting a call makes no action, so it does not count. -/
theorem of_issued {s t u : State} {i : Instr} (hi : issued s = some (i, u)) (h : AtMostOneAction u t) :
    AtMostOneAction s t := by
  unfold AtMostOneAction at h
  rwa [issued_trace hi] at h

end AtMostOneAction

/-- A rule with two outcomes, neither of which makes an action (the classes of a snapshot). -/
theorem trace_of_ite_next {c : Prop} [Decidable c] {s t x y : State}
    (h : (if c then .next x else .next y : Result) = .next t) (hx : x.trace = s.trace)
    (hy : y.trace = s.trace) : t.trace = s.trace := by
  split at h <;> cases h <;> assumption

/-- A poll step reads the CSR, delays, or tests T with no action (40 R131). -/
theorem pollStep_atMostOneAction (s : State) (m : WMode) : AtMostOneAction s (s.pollStep m) := by
  obtain ⟨-, h⟩ | ⟨-, h⟩ | ⟨-, h⟩ := s.pollStep_cases m <;> rw [h]
  · exact .of_cons s.pollRead_trace
  · exact .of_cons s.pollDelay_trace
  · exact .of_same (s.pollTest_trace m)

/-- No row of the opcode table makes more than one external action. -/
theorem exec_atMostOneAction {i : Instr} {s t : State} (h : exec i s = .next t) : AtMostOneAction s t := by
  cases i with
  | masterWrite | masterRead => exact .of_same (State.acceptMaster_trace h)
  | registerSlave a sub n => exact .of_same (execRegisterSlave_trace (a := a) (sub := sub) (n := n) h)
  | noCommand => cases h; exact .of_same rfl
  | waitReq | waitAny | waitRdy | waitIdle => cases h; exact pollStep_atMostOneAction s _
  | cwReset | cwStartW | cwStopW | cwPivot | cwStartR | cwStopR | cwSlaveReset
  | cwSlaveEnable =>
    cases h; exact .of_cons (s.writeCsr_trace _)
  | hdr10W | hdr10R | addr7W | addr7R | subaddrByte | wdataByte | dummyByte =>
    cases h; exact .of_cons (s.writeData_trace _)
  | stReqSpin | stIdleSpin => cases h; exact .of_same s.pollAgain_trace
  | stIdleEnd => cases h; exact .of_same s.endWait_trace
  | stRdySpin => exact .of_same (trace_of_ite_next h s.checkSnapshot_trace rfl)
  | stReqProceed | stReqTerminal | stRdyAccept | stRdyAbortIdle | stRdyAbortNack =>
    exact .of_same (trace_of_ite_next h rfl rfl)

theorem stepSetup_trace {s t : State} (h : stepSetup s = .next t) :
    t.trace = .delay s.cfg.tSetup :: s.trace := by
  cases h
  split
  · rw [State.nextSlave_trace]; rfl
  · rfl

theorem stepIdle_trace {s t : State} (h : stepIdle s = .next t) : t.trace = s.trace := by
  unfold stepIdle at h
  split at h
  · cases h; rfl
  · split at h <;> cases h
    rfl

theorem stepLoad_trace {s t : State} (h : stepLoad s = .next t) :
    t.trace = .bufRead s.idx (s.buf.read s.idx) :: s.trace := by
  unfold stepLoad at h
  split at h <;> cases h
  rfl

theorem stepStore_trace {s t : State} (h : stepStore s = .next t) :
    t.trace = .bufWrite s.idx s.v :: s.trace := by
  unfold stepStore at h
  split at h <;> cases h
  rfl

theorem stepAttach_trace {s t : State} (h : stepAttach s = .next t) :
    t.trace = .attach s.cfg.slaveIrqIndex s.slCallback :: s.trace := by
  cases h
  rw [State.nextSlave_trace]; rfl

theorem stepSlave_atMostOneAction {s t : State} (h : stepSlave s = .next t) : AtMostOneAction s t := by
  unfold stepSlave at h
  generalize s.slActions = l at h
  cases l with
  | nil => cases h; exact .of_same s.nextSlave_trace
  | cons x _ =>
    cases x with
    | convey w =>
      cases h
      obtain ⟨x, -, hw⟩ | ⟨b, -, hw⟩ := s.convey_cases w <;> rw [hw]
      · exact .of_cons (s.writeCsr_trace _)
      · exact .of_cons (s.writeData_trace b)
    | attach => exact .of_cons (stepAttach_trace h)
    | reset | enable => cases h; exact .of_same rfl

/-- No step of the sequencer makes more than one external action. -/
theorem stepUnissued_atMostOneAction {s t : State} (h : stepUnissued s = .next t) : AtMostOneAction s t := by
  unfold stepUnissued at h
  generalize s.seq = q at h
  cases q with
  | sIdle => exact .of_same (stepIdle_trace h)
  | tIrqOff => cases h; exact .of_cons (s.setIe_trace false)
  | wLoad => exact .of_cons (stepLoad_trace h)
  | rFetch => cases h; exact .of_cons s.readData_trace
  | rStore => exact .of_cons (stepStore_trace h)
  | tOk | tAbort => cases h; exact .of_cons (s.finish_trace _)
  | slPass => exact stepSlave_atMostOneAction h
  | apSel | wInit | wTest | wInc | rInit | rTest | rLstop | rInc => cases h; exact .of_same rfl
  -- These states issue a row in every case, so the sequencer leaves them as they are.
  | tReset | ap10Hdr | ap10Start | ap10Wait | ap10Low | ap7Addr | ap7Start | wWait | wByte | wFwait | wStop
  | wIdle | rWait1 | rSub | rWait2 | rReaddr | rPivot | rPidle | rStart | rWait3 | rPoll | rCheck | rDummy
  | rIdle => cases h; exact .of_same rfl

/-- Settles O12, by the three kinds of step: a delay is one action, and neither a row of the opcode table
nor a step of the sequencer makes more than one. -/
theorem oneActionPerStep : Obligations.OneActionPerStep := by
  intro s t h
  change AtMostOneAction s t
  obtain ⟨-, hs⟩ | ⟨-, i, u, hi, hs⟩ | ⟨-, -, hs⟩ := step_cases s <;> rw [hs] at h
  · exact .of_cons (stepSetup_trace h)
  · exact .of_issued hi (exec_atMostOneAction h)
  · exact stepUnissued_atMostOneAction h

end Sys2Proof.Machine
end

section
/-! What is issued, and what it does where it is issued: the class of a snapshot does what the mode of the
wait does, so that a waiting state makes one step of its poll, and R_CHECK checks T. -/

namespace Sys2Proof.Machine

/-! The tests of a snapshot, bit by bit (30_encoding R94, R112, R113). -/

theorem WMode.ends_req (t : Byte) : WMode.req.ends t = (t.getLsbD 4 || t.getLsbD 7) := by
  revert t; decide

theorem WMode.ends_rdy (t : Byte) : WMode.rdy.ends t = (t.getLsbD 5 || t.getLsbD 7) := by
  revert t; decide

theorem WMode.ends_idle (t : Byte) : WMode.idle.ends t = t.getLsbD 7 := by
  revert t; decide

theorem classify_eq (t : Byte) : classify t = if t.getLsbD 4 then 0 else t := by
  revert t; decide

theorem checkFails_eq (t : Byte) : checkFails t = (t.getLsbD 7 || t.getLsbD 6) := by
  revert t; decide

theorem ne_zero_of_getLsbD {t : Byte} {k : Nat} (h : t.getLsbD k = true) : t ≠ 0 := by
  rintro rfl
  simp at h

/-! Which class a snapshot is of, in the terms of the wait and of the check it ends. -/

theorem classifyReq_cases (t : Byte) :
    (WMode.req.ends t = false ∧ ∃ n d l, classifyReq t = .stReqSpin n d l)
      ∨ (WMode.req.ends t = true ∧ classify t = 0 ∧ ∃ i n d l, classifyReq t = .stReqProceed i n d l)
      ∨ (WMode.req.ends t = true ∧ classify t = t ∧ t ≠ 0 ∧ ∃ n d l, classifyReq t = .stReqTerminal n d l) := by
  rw [WMode.ends_req, classify_eq]
  unfold classifyReq
  cases h4 : t.getLsbD 4
  · cases h7 : t.getLsbD 7
    · exact .inl ⟨rfl, _, _, _, rfl⟩
    · exact .inr (.inr ⟨rfl, rfl, ne_zero_of_getLsbD h7, _, _, _, rfl⟩)
  · exact .inr (.inl ⟨rfl, rfl, _, _, _, _, rfl⟩)

theorem classifyRdy_cases (t : Byte) :
    (WMode.rdy.ends t = false ∧ ∃ n q l, classifyRdy t = .stRdySpin n q l)
      ∨ (WMode.rdy.ends t = true ∧ checkFails t = false ∧ ∃ q l, classifyRdy t = .stRdyAccept q l)
      ∨ (WMode.rdy.ends t = true ∧ checkFails t = true
        ∧ ((∃ n d q l, classifyRdy t = .stRdyAbortIdle n d q l) ∨ ∃ q l, classifyRdy t = .stRdyAbortNack q l)) := by
  rw [WMode.ends_rdy, checkFails_eq]
  unfold classifyRdy
  cases h7 : t.getLsbD 7
  · cases h5 : t.getLsbD 5
    · exact .inl ⟨rfl, _, _, _, rfl⟩
    · cases h6 : t.getLsbD 6
      · exact .inr (.inl ⟨rfl, rfl, _, _, rfl⟩)
      · exact .inr (.inr ⟨rfl, rfl, .inr ⟨_, _, rfl⟩⟩)
  · exact .inr (.inr ⟨by simp, rfl, .inl ⟨_, _, _, _, rfl⟩⟩)

theorem classifyIdle_cases (t : Byte) :
    (WMode.idle.ends t = false ∧ ∃ n d q l, classifyIdle t = .stIdleSpin n d q l)
      ∨ (WMode.idle.ends t = true ∧ ∃ n d q l, classifyIdle t = .stIdleEnd n d q l) := by
  rw [WMode.ends_idle]
  unfold classifyIdle
  cases h7 : t.getLsbD 7
  · exact .inl ⟨rfl, _, _, _, _, rfl⟩
  · exact .inr ⟨rfl, _, _, _, _, rfl⟩

/-! Where a row is issued (log 1). -/

theorem seq_ne_rCheck_of_waitMode {s : State} {m : WMode} (h : waitMode s.cfg s.seq = some m) :
    s.seq ≠ .rCheck := by
  intro hq
  simp [hq, waitMode] at h

theorem seq_ne_sIdle_of_waitMode {s : State} {m : WMode} (h : waitMode s.cfg s.seq = some m) :
    s.seq ≠ .sIdle := by
  intro hq
  simp [hq, waitMode] at h

/-- A waiting state issues the row of its wait. -/
theorem issue_wait {s : State} {m : WMode} (h : waitMode s.cfg s.seq = some m) :
    issue s = some (issueWait m s) := by
  cases hq : s.seq with
  | ap10Wait | wWait | wFwait | wIdle | rWait1 | rWait2 | rPidle | rWait3 | rPoll | rIdle =>
    rw [hq] at h; cases h
    simp only [issue, hq]
  | _ => rw [hq] at h; cases h

/-- The class of a snapshot is what its place decodes it to. -/
theorem decode_statusSlot (lenW : Nat) (m : WMode) (t : Byte) :
    decode lenW m.statusSlot t.toNat = .ok (m.statusClass t) := by
  have ht := t.isLt
  cases m <;> simp [decode, WMode.statusSlot, decodeByte, WMode.statusClass, ht]

theorem decode_statusRdy (lenW : Nat) (t : Byte) : decode lenW .statusRdy t.toNat = .ok (classifyRdy t) :=
  decode_statusSlot lenW .rdy t

/-- The row of a mode is one step of a poll. -/
theorem exec_mode (s : State) (m : WMode) : exec m.instr s = .next (s.pollStep m) := by
  cases m <;> rfl

/-- In the test step of a wait, the class of the snapshot does what the mode's test does. -/
theorem exec_statusClass {s : State} {m : WMode} (hm : waitMode s.cfg s.seq = some m) :
    exec (m.statusClass s.t) s = .next (s.pollTest m) := by
  have hc := seq_ne_rCheck_of_waitMode hm
  cases m with
  | req =>
    obtain ⟨he, _, _, _, hi⟩ | ⟨he, hr, _, _, _, _, hi⟩ | ⟨he, hr, ht, _, _, _, hi⟩ := classifyReq_cases s.t
    · simp [WMode.statusClass, hi, exec, execStReqSpin, State.pollTest, he]
    · simp [WMode.statusClass, hi, exec, execStReqProceed, hm, State.pollTest, he, State.endClassified, hr]
    · simp only [WMode.statusClass, hi, exec, execStReqTerminal, hm, State.pollTest, he, State.endClassified, hr,
        ne_eq, ht, not_false_eq_true, if_true]
  | any =>
    have hends : WMode.any.ends s.t = WMode.req.ends s.t := rfl
    obtain ⟨he, _, _, _, hi⟩ | ⟨he, -, _, _, _, _, hi⟩ | ⟨he, -, -, _, _, _, hi⟩ := classifyReq_cases s.t
    · simp [WMode.statusClass, hi, exec, execStReqSpin, State.pollTest, hends, he]
    · simp [WMode.statusClass, hi, exec, execStReqProceed, hm, State.pollTest, hends, he]
    · simp [WMode.statusClass, hi, exec, execStReqTerminal, hm, State.pollTest, hends, he]
  | rdy =>
    obtain ⟨he, _, _, _, hi⟩ | ⟨he, -, _, _, hi⟩ | ⟨he, -, ⟨_, _, _, _, hi⟩ | ⟨_, _, hi⟩⟩ :=
      classifyRdy_cases s.t
    · simp [WMode.statusClass, hi, exec, execStRdySpin, hc, State.pollTest, he]
    · simp [WMode.statusClass, hi, exec, execStRdyAccept, hc, State.pollTest, he]
    · simp [WMode.statusClass, hi, exec, execStRdyAbortIdle, hc, State.pollTest, he]
    · simp [WMode.statusClass, hi, exec, execStRdyAbortNack, hc, State.pollTest, he]
  | idle =>
    obtain ⟨he, _, _, _, _, hi⟩ | ⟨he, _, _, _, _, hi⟩ := classifyIdle_cases s.t
    · simp [WMode.statusClass, hi, exec, execStIdleSpin, State.pollTest, he]
    · simp [WMode.statusClass, hi, exec, execStIdleEnd, State.pollTest, he]

/-- In R_CHECK the class of the snapshot does what the check does. -/
theorem exec_classifyRdy_rCheck {s : State} (hq : s.seq = .rCheck) :
    exec (classifyRdy s.t) s = .next s.checkSnapshot := by
  obtain ⟨-, _, _, _, hi⟩ | ⟨-, hf, _, _, hi⟩ | ⟨-, hf, ⟨_, _, _, _, hi⟩ | ⟨_, _, hi⟩⟩ :=
    classifyRdy_cases s.t
  · simp [hi, exec, execStRdySpin, hq]
  · simp [hi, exec, execStRdyAccept, hq, State.checkSnapshot, hf]
  · simp [hi, exec, execStRdyAbortIdle, hq, State.checkSnapshot, hf]
  · simp [hi, exec, execStRdyAbortNack, hq, State.checkSnapshot, hf]

theorem step_issue {s : State} {i : Instr} (h : s.setup = false) (hq : s.seq ≠ .sIdle)
    (hi : issue s = some i) : step s = exec i s :=
  step_issued h (by rw [issued_busy hq, hi]; rfl)

/-- A waiting state makes one step of its poll. -/
theorem step_wait {s : State} {m : WMode} (h : s.setup = false) (hm : waitMode s.cfg s.seq = some m) :
    step s = .next (s.pollStep m) := by
  rw [step_issue h (seq_ne_sIdle_of_waitMode hm) (issue_wait hm)]
  cases hp : s.pseq with
  | pRead | pDly => simp only [issueWait, hp, exec_mode]
  | pTest => simp only [issueWait, hp, exec_statusClass hm, State.pollStep]

/-- R_CHECK checks the snapshot in T. -/
theorem step_check {s : State} (h : s.setup = false) (hq : s.seq = .rCheck) :
    step s = .next s.checkSnapshot := by
  rw [step_issue h (by simp [hq]) (i := classifyRdy s.t) (by simp [issue, hq]), exec_classifyRdy_rCheck hq]

/-- An idle ENGINE to which a command is presented executes it. -/
theorem step_command {s : State} {c : HostCall} {rest : List HostCall} {i : Instr} (h : s.setup = false)
    (hq : s.seq = .sIdle) (hc : s.calls = c :: rest) (hr : c.reset = false)
    (hd : decodeCommand s.cfg.lenW c.word = .ok i) : step s = exec i (s.present c rest) :=
  step_issued h (issued_idle hq hc hr hd)

/-- A state whose rule writes a register makes one CSR or DATA write (20_memory R67, R69). -/
theorem step_registerWrite {s : State} (h : s.setup = false) (hw : Safety.writesRegister s.seq = true)
    (hsl : s.seq ≠ .slPass) (hl : s.seq = .rLstop → s.idx + 1 = s.len) :
    (∃ w, step s = .next (s.writeCsr w)) ∨ ∃ b, step s = .next (s.writeData b) := by
  cases hq : s.seq with
  | tReset => exact .inl ⟨_, step_reset h hq⟩
  | ap10Hdr => exact .inr ⟨_, step_header h hq⟩
  | ap10Start => exact .inl ⟨_, step_start10 h hq⟩
  | ap10Low => exact .inr ⟨_, step_low h hq⟩
  | ap7Addr => exact .inr ⟨_, step_addr7 h hq⟩
  | ap7Start => exact .inl ⟨_, step_start7 h hq⟩
  | wByte => exact .inr ⟨_, step_byte h hq⟩
  | wStop => exact .inl ⟨_, step_stop h hq⟩
  | rSub => exact .inr ⟨_, step_sub h hq⟩
  | rReaddr => exact .inr ⟨_, step_readdr h hq⟩
  | rPivot => exact .inl ⟨_, step_pivot h hq⟩
  | rStart => exact .inl ⟨_, step_startR h hq⟩
  | rLstop => exact .inl ⟨_, step_lastStop h hq (hl hq)⟩
  | rDummy => exact .inr ⟨_, step_dummy h hq⟩
  | slPass => exact absurd hq hsl
  | _ => rw [hq] at hw; cases hw

/-- An idle ENGINE to which nothing is presented stays as it is (10_state R24). -/
theorem step_noCall {s : State} (h : s.setup = false) (hq : s.seq = .sIdle) (hc : s.calls = []) :
    step s = .next s := by
  rw [step_unissued h (by simp [issued, hq, hc])]
  simp [stepUnissued, hq, stepIdle, hc]

/-- A presented word that is no command is refused (log 22). -/
theorem step_undecoded {s : State} {c : HostCall} {rest : List HostCall} {e : DecodeError} (h : s.setup = false)
    (hq : s.seq = .sIdle) (hc : s.calls = c :: rest) (hr : c.reset = false)
    (hd : decodeCommand s.cfg.lenW c.word = .error e) : step s = .refused .commandTooWide := by
  rw [step_unissued h (by simp [issued, hq, hc, hr, hd, Except.toOption])]
  simp [stepUnissued, hq, stepIdle, hc, hr]

/-- The step of an idle ENGINE: nothing to do, a block reset, or the command presented. -/
theorem step_idle_next {s t : State} (h : s.setup = false) (hq : s.seq = .sIdle) (ht : step s = .next t) :
    (s.calls = [] ∧ t = s)
      ∨ ∃ c rest, s.calls = c :: rest
        ∧ ((c.reset = true ∧ t = { s.blockReset with calls := { c with reset := false } :: rest })
          ∨ (c.reset = false ∧ ∃ i, decodeCommand s.cfg.lenW c.word = .ok i
            ∧ exec i (s.present c rest) = .next t)) := by
  cases hc : s.calls with
  | nil =>
    rw [step_noCall h hq hc] at ht
    cases ht
    exact .inl ⟨rfl, rfl⟩
  | cons c rest =>
    refine .inr ⟨c, rest, rfl, ?_⟩
    cases hr : c.reset
    · cases hd : decodeCommand s.cfg.lenW c.word with
      | error e =>
        rw [step_undecoded h hq hc hr hd] at ht
        cases ht
      | ok i =>
        rw [step_command h hq hc hr hd] at ht
        exact .inr ⟨rfl, i, rfl, ht⟩
    · rw [step_blockReset h hq hc hr] at ht
      cases ht
      exact .inl ⟨rfl, rfl⟩

/-- SL_PASS with no action left ends the command (44 R231). -/
theorem step_slaveDone {s : State} (h : s.setup = false) (hq : s.seq = .slPass) (hl : s.slActions = []) :
    step s = .next s.nextSlave := by
  simp [step, h, issued, issue, hq, hl, stepUnissued, stepSlave]

/-! The buffer accesses, when the index is one of BUF (20_memory R62). -/

theorem stepLoad_next {s t : State} (h : stepLoad s = .next t) :
    s.bufIndexOk s.idx = true ∧ t = (({ s with v := s.buf.read s.idx }).log
      (.bufRead s.idx (s.buf.read s.idx))).goto .wByte := by
  unfold stepLoad at h
  split at h <;> cases h
  exact ⟨‹_›, rfl⟩

theorem stepStore_next {s t : State} (h : stepStore s = .next t) :
    s.bufIndexOk s.idx = true ∧ t = (({ s with buf := s.buf.write s.idx s.v }).log
      (.bufWrite s.idx s.v)).goto .rDummy := by
  unfold stepStore at h
  split at h <;> cases h
  exact ⟨‹_›, rfl⟩

/-! The commands in S_IDLE and outside it (10_state R26). -/

theorem State.acceptMaster_idle {s : State} (op : BitVec 2) (a : DevAddr) (sub : Byte) {n : Nat}
    (hq : s.seq = .sIdle) (hn : n ≤ s.offer.buffer.size) :
    s.acceptMaster op a sub n = .next { s with
      op := op, addr := a, subaddr := sub, len := n, busy := true, seq := .tIrqOff, buf := s.offer.buffer } := by
  simp only [State.acceptMaster, hq, ne_eq, not_true, if_false, if_neg (Nat.not_lt.2 hn)]
  rfl

theorem State.acceptMaster_busy {s : State} (op : BitVec 2) (a : DevAddr) (sub : Byte) (n : Nat)
    (hq : s.seq ≠ .sIdle) : s.acceptMaster op a sub n = .next s := if_pos hq

/-- REGISTER_SLAVE when it is executed (log 13). -/
theorem execRegisterSlave_idle {s : State} (a : DevAddr) (sub : Byte) (n : Nat) (hq : s.seq = .sIdle)
    (hx : s.cfg.slaveExecuted = true) :
    execRegisterSlave a sub n s = .next { s with
      op := 3, busy := true, seq := .slPass, slAddr := a, slCallback := s.offer.callback
      slaveCalls := s.slaveCalls + 1
      slActions := slavePlan (Config.slaveBefore s.slaveCalls a) (Config.slaveAfter s.slaveCalls a)
      slResetHi := Config.slaveResetHi s.slaveCalls a, slResetLo := Config.slaveResetLo s.slaveCalls a
      slEnableHi := Config.slaveEnableHi s.slaveCalls a, slEnableLo := Config.slaveEnableLo s.slaveCalls a } := by
  simp only [execRegisterSlave, hq, ne_eq, not_true, if_false, hx, if_true]
  rfl

/-- If REGISTER_SLAVE answers a next state, it was ignored, or taken with the switch on. -/
theorem execRegisterSlave_next {s t : State} {a : DevAddr} {sub : Byte} {n : Nat}
    (h : execRegisterSlave a sub n s = .next t) :
    (s.seq ≠ .sIdle ∧ t = s)
      ∨ (s.seq = .sIdle ∧ s.cfg.slaveExecuted = true ∧ t = { s with
          op := 3, busy := true, seq := .slPass, slAddr := a, slCallback := s.offer.callback
          slaveCalls := s.slaveCalls + 1
          slActions := slavePlan (Config.slaveBefore s.slaveCalls a) (Config.slaveAfter s.slaveCalls a)
          slResetHi := Config.slaveResetHi s.slaveCalls a, slResetLo := Config.slaveResetLo s.slaveCalls a
          slEnableHi := Config.slaveEnableHi s.slaveCalls a
          slEnableLo := Config.slaveEnableLo s.slaveCalls a }) := by
  by_cases hq : s.seq = .sIdle
  · cases hx : s.cfg.slaveExecuted
    · simp [execRegisterSlave, hq, hx] at h
    · rw [execRegisterSlave_idle a sub n hq hx] at h
      cases h
      exact .inr ⟨hq, rfl, rfl⟩
  · simp only [execRegisterSlave, ne_eq, hq, not_false_eq_true, if_true] at h
    cases h
    exact .inl ⟨hq, rfl⟩

/-- What F-CMD decodes to is one of the four commands, with a length of LEN_W bits (30_encoding R91). -/
theorem decodeCommand_ok {lenW w : Nat} {i : Instr} (h : decodeCommand lenW w = .ok i) :
    i.slot = .cmd ∧ i.WellFormed lenW = true := by
  unfold decodeCommand at h
  split at h
  next hw =>
    have hn : w / 2 ^ 20 < 2 ^ lenW := Nat.div_lt_of_lt_mul (by rwa [← Nat.pow_add])
    simp only at h
    split_ifs at h <;> cases h <;> exact ⟨rfl, decide_eq_true hn⟩
  next => cases h

/-- A word of more bits than F-CMD is none of the commands. -/
theorem decodeCommand_tooWide {lenW w : Nat} (h : 2 ^ (20 + lenW) ≤ w) :
    decodeCommand lenW w = .error .tooWide := if_neg (Nat.not_lt.2 h)

end Sys2Proof.Machine
end

section
/-! Settled: reset, the step of an idle ENGINE, how a step runs an instruction, and the commands. -/

namespace Sys2Proof.Machine

open Sys2Proof.Safety

/-- Settles O1, by the step of a block reset. -/
theorem resetIsIdle : Obligations.ResetIsIdle := by
  refine ⟨rfl, rfl, rfl, rfl, rfl, fun s c rest hs hq hc hr => ⟨_, step_blockReset hs hq hc hr, ?_⟩⟩
  cases s
  cases hs
  rfl

/-- CSR_ADDR and DATA_ADDR are kept apart in the parameters at reset (20_memory R61). -/
theorem device_csrAddr_ne_dataAddr : Config.device.csrAddr ≠ Config.device.dataAddr := by
  unfold Config.device
  simp only
  split
  next => omega
  next h => exact Ne.symm h

/-- Settles O2: apart from the two addresses, which are opaque, every field of Inv is a closed fact of the
reset state. -/
theorem invariantAtReset : Obligations.InvariantAtReset := by
  constructor
  case reg_distinct => exact device_csrAddr_ne_dataAddr
  all_goals decide

/-- Settles O8: both tests are the one of bits 9 to 7, over all addresses. -/
theorem tenIsRangeOfAddress : Obligations.TenIsRangeOfAddress := by
  intro a
  refine ⟨by simp [ten], ?_⟩
  have hbits : (a.extractLsb' 7 3).toNat = a.toNat / 128 := by
    have ha := a.isLt
    simp [BitVec.extractLsb'_toNat, Nat.shiftRight_eq_div_pow]
    omega
  rw [ne_eq, ← BitVec.toNat_inj, hbits]
  simp [ten]
  omega

/-- Settles O10, by what each place issues. -/
theorem stepRunsDecodedInstruction : Obligations.StepRunsDecodedInstruction := by
  refine ⟨fun s c rest i hs hq hc hr hd => step_command hs hq hc hr hd, ?_, ?_, ?_,
    fun s i hs hq hi => step_issue hs hq hi⟩
  · intro s m i hs hm hp hd
    rw [decode_statusSlot] at hd
    cases hd
    exact step_issue hs (seq_ne_sIdle_of_waitMode hm) (by rw [issue_wait hm, issueWait, hp])
  · intro s m hs hm hp
    refine step_issue hs (seq_ne_sIdle_of_waitMode hm) ?_
    rw [issue_wait hm]
    cases hp' : s.pseq with
    | pRead | pDly => simp only [issueWait, hp']
    | pTest => exact absurd hp' hp
  · intro s i hs hq hd
    rw [decode_statusRdy] at hd
    cases hd
    exact step_issue hs (by simp [hq]) (by simp [issue, hq])

/-- Settles O11: without a call the ENGINE stays, and a word too wide decodes to no command. -/
theorem idleWithoutCommand : Obligations.IdleWithoutCommand :=
  ⟨fun _ hs hq hc => step_noCall hs hq hc,
    fun _ _ _ hs hq hc hr hw => step_undecoded hs hq hc hr (decodeCommand_tooWide hw)⟩

/-- Settles O14, by the acceptance of a master command and of REGISTER_SLAVE. -/
theorem commandsAccepted : Obligations.CommandsAccepted := by
  intro s a sub n hq
  refine ⟨fun hn => ⟨State.acceptMaster_idle 1 a sub hq hn, State.acceptMaster_idle 2 a sub hq hn⟩,
    fun hx => execRegisterSlave_idle a sub n hq hx, rfl⟩

/-- Settles O16, by the test of S_IDLE that each command makes first. -/
theorem commandIgnoredWhileBusy : Obligations.CommandIgnoredWhileBusy := by
  intro s a sub n hq
  exact ⟨State.acceptMaster_busy 1 a sub n hq, State.acceptMaster_busy 2 a sub n hq, if_pos hq, rfl⟩

end Sys2Proof.Machine
end

section
/-! The invariant as a table: a duty is one thing Inv asks of the states of one class of SEQ. A move of SEQ
keeps Inv when it brings no new duty, or the one new duty is met. -/

namespace Sys2Proof.Safety

open Sys2Proof.Machine

/-- What Inv asks of the states of a class. -/
inductive Duty where
  | write
  | read
  | master
  | slave
  | tenBit
  | sevenBit
  | bracket
  | atTest
  | loop
  | done
  | ready
  | accepted
  | abort

namespace Duty

/-- The states that have the duty. -/
def appliesTo (c : Config) (q : Seq) : Duty → Bool
  | write => inWrite q
  | read => inRead q
  | master => inMaster q
  | slave => q = .slPass
  | tenBit => inTenBit q
  | sevenBit => inSevenBit q
  | bracket => inMaster q && q ≠ .tIrqOff
  | atTest => q = .wTest || q = .rTest
  | loop => inLoop q
  | done => afterLoop q
  | ready => q = .rCheck || q = .rLstop && !c.lastStopBeforePoll
  | accepted => hasAccepted q
  | abort => q = .tAbort

/-- What the duty asks. -/
def Holds (s : State) : Duty → Prop
  | write => s.op = 1
  | read => s.op = 2
  | master => (s.op = 1 ∨ s.op = 2) ∧ s.len ≤ s.buf.size ∧ s.len < 2 ^ s.cfg.lenW
  | slave => s.op = 3 ∧ s.cfg.slaveExecuted = true
  | tenBit => ten s.addr = true
  | sevenBit => ten s.addr = false
  | bracket => s.ie = false
  | atTest => s.idx ≤ s.len
  | loop => s.idx < s.len
  | done => s.idx = s.len
  | ready => WMode.rdy.ends s.t = true
  | accepted => s.t &&& 0xE0 = 0x20
  | abort => checkFails s.abortStatus = true

def all : List Duty :=
  [write, read, master, slave, tenBit, sevenBit, bracket, atTest, loop, done, ready, accepted, abort]

theorem mem_all (d : Duty) : d ∈ all := by cases d <;> simp [all]

/-- The duties of a state of SEQ. -/
def ofSeq (c : Config) (q : Seq) : List Duty := all.filter (appliesTo c q)

/-- The duties a move of SEQ from p to q brings. -/
def newAt (c : Config) (p q : Seq) : List Duty := (ofSeq c q).filter (fun d => !appliesTo c p d)

theorem mem_ofSeq {c : Config} {q : Seq} {d : Duty} : d ∈ ofSeq c q ↔ appliesTo c q d = true := by
  simp [ofSeq, mem_all]

theorem mem_newAt {c : Config} {p q : Seq} {d : Duty} :
    d ∈ newAt c p q ↔ appliesTo c q d = true ∧ appliesTo c p d = false := by
  simp [newAt, mem_ofSeq]

/-- Without the switch R_LSTOP has every duty of R_CHECK, the ended wait among them (43 R203). -/
theorem rLstop_of_rCheck {c : Config} {d : Duty} (hx : c.lastStopBeforePoll = false)
    (h : appliesTo c .rCheck d = true) : appliesTo c .rLstop d = true := by
  cases d with
  | ready => simp [appliesTo, hx]
  | _ => exact h

/-- R_LSTOP has the duties of R_POLL, but for the ended wait (43 R202). -/
theorem eq_ready_of_rLstop {c : Config} {d : Duty} (h : d ∈ newAt c .rPoll .rLstop) : d = .ready := by
  obtain ⟨hq, hp⟩ := mem_newAt.1 h
  cases d with
  | ready => rfl
  | _ => cases hq.symm.trans hp

/-- With the switch R_LSTOP comes before the poll and has the duties of the loop only (43 R201). -/
theorem eq_loop_of_rLstop {c : Config} {d : Duty} (hx : c.lastStopBeforePoll = true)
    (h : d ∈ newAt c .rTest .rLstop) : d = .loop := by
  obtain ⟨hq, hp⟩ := mem_newAt.1 h
  cases d with
  | loop => rfl
  | ready => simp [appliesTo, hx] at hq
  | atTest => cases hq
  | _ => cases hq.symm.trans hp

end Duty

/-- Inv is five conditions of every state and the duties of the state SEQ is in. -/
theorem Inv.of_duties {s : State} (busy_iff : s.busy = true ↔ s.seq ≠ .sIdle)
    (setup_writes : s.setup = true →
      writesRegister s.seq = true ∧ (s.seq = .slPass → s.slActions.headD .attach ≠ .attach))
    (ret_class : s.ret ≠ 0 → checkFails s.ret = true) (bufs_wf : bufsWf s = true)
    (reg_distinct : s.cfg.csrAddr ≠ s.cfg.dataAddr) (hd : ∀ d ∈ Duty.ofSeq s.cfg s.seq, d.Holds s) : Inv s where
  busy_iff := busy_iff
  setup_writes := setup_writes
  op_write h := hd .write (Duty.mem_ofSeq.2 h)
  op_read h := hd .read (Duty.mem_ofSeq.2 h)
  op_master h := (hd .master (Duty.mem_ofSeq.2 h)).1
  op_slave h := (hd .slave (Duty.mem_ofSeq.2 (by simpa [Duty.appliesTo] using h))).1
  slave_on h := (hd .slave (Duty.mem_ofSeq.2 (by simpa [Duty.appliesTo] using h))).2
  addr_ten h := hd .tenBit (Duty.mem_ofSeq.2 h)
  addr_seven h := hd .sevenBit (Duty.mem_ofSeq.2 h)
  ie_off h h' := hd .bracket (Duty.mem_ofSeq.2 (by simp [Duty.appliesTo, h, h']))
  len_fits h := (hd .master (Duty.mem_ofSeq.2 h)).2
  idx_test h := hd .atTest (Duty.mem_ofSeq.2 (by simpa [Duty.appliesTo] using h))
  idx_loop h := hd .loop (Duty.mem_ofSeq.2 h)
  idx_done h := hd .done (Duty.mem_ofSeq.2 h)
  t_ready h := hd .ready (Duty.mem_ofSeq.2 (by simpa [Duty.appliesTo] using h))
  t_accepted h := hd .accepted (Duty.mem_ofSeq.2 h)
  abort_class h := hd .abort (Duty.mem_ofSeq.2 (by simpa [Duty.appliesTo] using h))
  ret_class := ret_class
  bufs_wf := bufs_wf
  reg_distinct := reg_distinct

theorem Inv.duty {s : State} (h : Inv s) {d : Duty} (hd : d.appliesTo s.cfg s.seq = true) : d.Holds s := by
  cases d with
  | write => exact h.op_write hd
  | read => exact h.op_read hd
  | master => exact ⟨h.op_master hd, h.len_fits hd⟩
  | slave =>
    have hq : s.seq = .slPass := of_decide_eq_true hd
    exact ⟨h.op_slave hq, h.slave_on hq⟩
  | tenBit => exact h.addr_ten hd
  | sevenBit => exact h.addr_seven hd
  | bracket =>
    obtain ⟨hm, hq⟩ := Bool.and_eq_true_iff.1 hd
    exact h.ie_off hm (of_decide_eq_true hq)
  | atTest => exact h.idx_test (by simpa [Duty.appliesTo] using hd)
  | loop => exact h.idx_loop hd
  | done => exact h.idx_done hd
  | ready => exact h.t_ready (by simpa [Duty.appliesTo] using hd)
  | accepted => exact h.t_accepted hd
  | abort => exact h.abort_class (of_decide_eq_true hd)

/-! Moves of SEQ within a transaction. -/

section moves
variable {s : State} {p q : Seq}

/-- A move keeps Inv when the new duties are met. -/
theorem Inv.goto (h : Inv s) (hs : s.setup = false) (hp : s.seq = p) (hn : ∀ d ∈ Duty.newAt s.cfg p q, d.Holds s)
    (hpm : inMaster p = true := by rfl) (hqm : inMaster q = true := by rfl) : Inv (s.goto q) := by
  subst hp
  refine .of_duties ?_ (by simp [hs]) h.ret_class h.bufs_wf h.reg_distinct fun d hq => ?_
  · obtain ⟨hpi, -⟩ : s.seq ≠ .sIdle ∧ s.seq ≠ .slPass := by simpa [inMaster] using hpm
    obtain ⟨hqi, -⟩ : q ≠ .sIdle ∧ q ≠ .slPass := by simpa [inMaster] using hqm
    simp [h.busy_iff, hpi, hqi]
  · change d.Holds s
    cases ho : d.appliesTo s.cfg s.seq
    · exact hn d (Duty.mem_newAt.2 ⟨Duty.mem_ofSeq.1 hq, ho⟩)
    · exact h.duty ho

/-- A move that brings no duty. -/
theorem Inv.goto_same (h : Inv s) (hs : s.setup = false) (hp : s.seq = p)
    (hn : Duty.newAt s.cfg p q = [] := by rfl)
    (hpm : inMaster p = true := by rfl) (hqm : inMaster q = true := by rfl) : Inv (s.goto q) :=
  h.goto hs hp (by simp [hn]) hpm hqm

/-- A move that brings one duty. -/
theorem Inv.goto_new (h : Inv s) (hs : s.setup = false) (hp : s.seq = p) (d : Duty) (hd : d.Holds s)
    (hn : Duty.newAt s.cfg p q = [d] := by rfl)
    (hpm : inMaster p = true := by rfl) (hqm : inMaster q = true := by rfl) : Inv (s.goto q) :=
  h.goto hs hp (by simpa [hn] using hd) hpm hqm

/-- The address phase goes on to the body of the command (41 R159). -/
theorem Inv.goto_afterAddress (h : Inv s) (hs : s.setup = false) (hp : s.seq = .ap10Low ∨ s.seq = .ap7Start) :
    Inv (s.goto (afterAddress s.op)) := by
  have hop : s.op = 1 ∨ s.op = 2 := h.op_master (by obtain hp | hp := hp <;> rw [hp] <;> rfl)
  obtain ho | ho := hop <;> obtain hp | hp := hp <;> rw [ho]
  · exact h.goto_new hs hp .write ho
  · exact h.goto_new hs hp .write ho
  · exact h.goto_new hs hp .read ho
  · exact h.goto_new hs hp .read ho

/-- R_LSTOP goes to R_CHECK with the snapshot of the poll before it, or to the poll (43 R203). -/
theorem Inv.goto_afterLstop (h : Inv s) (hs : s.setup = false) (hp : s.seq = .rLstop) :
    Inv (s.goto (afterLstop s.cfg)) := by
  unfold afterLstop
  split
  next => exact h.goto_same hs hp
  next hx =>
    refine h.goto hs hp fun d hd => h.duty ?_
    rw [hp]
    exact Duty.rLstop_of_rCheck (by simpa using hx) (Duty.mem_newAt.1 hd).1

/-- A state that wrote a register goes on when its delay is done (20_memory R73). -/
theorem Inv.goto_afterSetup (h : Inv s) (hs : s.setup = false) (hw : writesRegister s.seq = true)
    (hsl : s.seq ≠ .slPass) : Inv (s.goto (afterSetup s.cfg s.op s.seq)) := by
  cases hp : s.seq with
  | ap10Low => exact h.goto_afterAddress hs (.inl hp)
  | ap7Start => exact h.goto_afterAddress hs (.inr hp)
  | rLstop => exact h.goto_afterLstop hs hp
  | tReset | ap10Hdr | ap10Start | ap7Addr | wByte | wStop | rSub | rReaddr | rPivot | rStart | rDummy =>
    exact h.goto_same hs hp
  | slPass => exact absurd hp hsl
  | sIdle | tIrqOff | apSel | ap10Wait | wInit | wTest | wWait | wLoad | wInc | wFwait | wIdle | rWait1 | rWait2
  | rPidle | rWait3 | rInit | rTest | rPoll | rCheck | rFetch | rStore | rInc | rIdle | tOk | tAbort =>
    rw [hp] at hw; cases hw

/-- A wait that has ended goes on; WAIT_RDY with a snapshot that ended it (43 R202). -/
theorem Inv.endWait {m : WMode} (h : Inv s) (hs : s.setup = false) (hm : waitMode s.cfg s.seq = some m)
    (he : m.ends s.t = true) : Inv s.endWait := by
  unfold State.endWait
  cases hp : s.seq with
  | rPoll =>
    obtain rfl : WMode.rdy = m := by rw [hp] at hm; exact Option.some.inj hm
    simp only [afterWait]
    split
    next => exact h.goto_new hs hp .ready he
    next =>
      refine h.goto hs hp fun d hd => ?_
      obtain rfl := Duty.eq_ready_of_rLstop hd
      exact he
  | ap10Wait | wWait | wFwait | wIdle | rWait1 | rWait2 | rPidle | rWait3 | rIdle => exact h.goto_same hs hp
  | sIdle | tIrqOff | tReset | apSel | ap10Hdr | ap10Start | ap10Low | ap7Addr | ap7Start | wInit | wTest | wLoad
  | wByte | wInc | wStop | rSub | rReaddr | rPivot | rStart | rInit | rTest | rLstop | rCheck | rFetch | rStore
  | rDummy | rInc | tOk | tAbort | slPass => rw [hp] at hm; cases hm

/-! Waits and the check of a read. -/

/-- The status of a classified wait that aborts has IDLE set (40 R139). -/
theorem checkFails_classify (t : Byte) (he : WMode.req.ends t = true) (hr : classify t ≠ 0) :
    checkFails (classify t) = true := by
  revert t; decide

/-- "When this state passes, T & 0xE0 == 0x20" (43 R204). -/
theorem ready_of_checkFails (t : Byte) (he : WMode.rdy.ends t = true) (hc : checkFails t = false) :
    t &&& 0xE0 = 0x20 := by
  revert t; decide

/-- Where a snapshot has been accepted, no wait is. -/
theorem waitMode_of_hasAccepted {c : Config} {q : Seq} (h : hasAccepted q = true) : waitMode c q = none := by
  revert h
  cases q <;> simp [hasAccepted, waitMode]

/-- From a waiting state an abort brings the duty of its status only. -/
theorem newAt_tAbort_of_waitMode {c : Config} {q : Seq} {m : WMode} (h : waitMode c q = some m) :
    q ≠ .tAbort ∧ Duty.newAt c q .tAbort = [.abort] ∧ inMaster q = true := by
  cases q with
  | ap10Wait | wWait | wFwait | wIdle | rWait1 | rWait2 | rPidle | rWait3 | rPoll | rIdle =>
    exact ⟨nofun, rfl, rfl⟩
  | sIdle | tIrqOff | tReset | apSel | ap10Hdr | ap10Start | ap10Low | ap7Addr | ap7Start | wInit | wTest | wLoad
  | wByte | wInc | wStop | rSub | rReaddr | rPivot | rStart | rInit | rTest | rLstop | rCheck | rFetch | rStore
  | rDummy | rInc | tOk | tAbort | slPass => cases h

/-- R and T may change in a waiting state: only R_LSTOP, R_CHECK, the states after it and T_ABORT speak for
them. -/
theorem Inv.setR {m : WMode} (h : Inv s) (hm : waitMode s.cfg s.seq = some m) (x : Byte) :
    Inv { s with r := x } :=
  { h with abort_class := fun hq => by rw [hq] at hm; cases hm }

theorem Inv.pollRead {m : WMode} (h : Inv s) (hm : waitMode s.cfg s.seq = some m) : Inv s.pollRead :=
  { h with
    t_ready := fun hq => by
      have hq' : s.seq = .rCheck ∨ s.seq = .rLstop := hq.imp_right And.left
      obtain hq | hq := hq' <;> rw [hq] at hm <;> cases hm
    t_accepted := fun (hq : hasAccepted s.seq = true) => by rw [waitMode_of_hasAccepted hq] at hm; cases hm
    abort_class := fun (hq : s.seq = .tAbort) => by rw [hq] at hm; cases hm }

/-- An abort keeps Inv when its status has IDLE or NO_ACK set. -/
theorem Inv.raiseAbort {a : AbortSrc} (h : Inv s) (hs : s.setup = false) (hp : s.seq = p) (hpa : p ≠ .tAbort)
    (hn : Duty.newAt s.cfg p .tAbort = [.abort]) (hpm : inMaster p = true)
    (hc : checkFails (s.raiseAbort a).abortStatus = true) : Inv (s.raiseAbort a) :=
  have hu : Inv { s with abortSrc := a } := { h with abort_class := fun hq => absurd (hp.symm.trans hq) hpa }
  hu.goto_new hs hp .abort hc hn hpm

theorem Inv.endClassified (h : Inv s) (hs : s.setup = false) (hm : waitMode s.cfg s.seq = some .req)
    (he : WMode.req.ends s.t = true) : Inv s.endClassified := by
  obtain ⟨-, hr⟩ | ⟨hc, hr⟩ := s.endClassified_cases <;> rw [hr]
  · exact (h.setR hm 0).endWait hs hm he
  · obtain ⟨hpa, hn, hpm⟩ := newAt_tAbort_of_waitMode hm
    exact (h.setR hm _).raiseAbort hs rfl hpa hn hpm (checkFails_classify s.t he hc)

/-- A step of a poll keeps Inv (40 R131 to R138). -/
theorem Inv.pollStep {m : WMode} (h : Inv s) (hs : s.setup = false) (hm : waitMode s.cfg s.seq = some m) :
    Inv (s.pollStep m) := by
  obtain ⟨-, hr⟩ | ⟨-, hr⟩ | ⟨-, hr⟩ := s.pollStep_cases m <;> rw [hr]
  · exact h.pollRead hm
  · exact { h with }
  · obtain ⟨-, hr⟩ | ⟨he, -, hr⟩ | ⟨he, rfl, hr⟩ := s.pollTest_cases m <;> rw [hr]
    · exact { h with }
    · exact h.endWait hs hm he
    · exact h.endClassified hs hm he

theorem Inv.checkSnapshot (h : Inv s) (hs : s.setup = false) (hp : s.seq = .rCheck) : Inv s.checkSnapshot := by
  obtain ⟨hc, hr⟩ | ⟨hc, hr⟩ := s.checkSnapshot_cases <;> rw [hr]
  · exact h.raiseAbort hs hp nofun rfl rfl hc
  · exact h.goto_new hs hp .accepted (ready_of_checkFails s.t (h.t_ready (.inl hp)) hc)

/-! The loop counter and the buffer. -/

/-- The counter may be set outside the byte loops, and in their test up to LEN. -/
theorem Inv.setIdx {n : Nat} (h : Inv s) (hl : inLoop s.seq = false) (hd : afterLoop s.seq = false)
    (ht : s.seq = .wTest ∨ s.seq = .rTest → n ≤ s.len) : Inv { s with idx := n } :=
  { h with
    idx_test := ht
    idx_loop := fun hq => by cases hl.symm.trans hq
    idx_done := fun hq => by cases hd.symm.trans hq }

/-- The increment of a loop counter on the way to the loop's test (42 R176, 43 R208). -/
theorem Inv.increment (h : Inv s) (hs : s.setup = false)
    (hpq : s.seq = .wInc ∧ q = .wTest ∨ s.seq = .rInc ∧ q = .rTest) :
    Inv (({ s with idx := s.idx + 1 }).goto q) := by
  have hi : s.idx < s.len := h.idx_loop (by obtain ⟨hp, -⟩ | ⟨hp, -⟩ := hpq <;> rw [hp] <;> rfl)
  obtain ⟨hp, rfl⟩ | ⟨hp, rfl⟩ := hpq
  · exact (h.goto_new hs hp .atTest hi.le).setIdx rfl rfl (fun _ => hi)
  · exact (h.goto_new hs hp .atTest hi.le).setIdx rfl rfl (fun _ => hi)

theorem Inv.writeTest (h : Inv s) (hs : s.setup = false) (hp : s.seq = .wTest) :
    Inv (s.goto (if s.idx = s.len then .wFwait else .wWait)) := by
  split
  next he => exact h.goto_new hs hp .done he
  next he => exact h.goto_new hs hp .loop (lt_of_le_of_ne (h.idx_test (.inl hp)) he)

theorem Inv.readTest (h : Inv s) (hs : s.setup = false) (hp : s.seq = .rTest) :
    Inv (s.goto (if s.idx = s.len then .rIdle else if s.cfg.lastStopBeforePoll then .rLstop else .rPoll)) := by
  split
  next he => exact h.goto_new hs hp .done he
  next he =>
    have hlt : s.idx < s.len := lt_of_le_of_ne (h.idx_test (.inr hp)) he
    split
    next hx =>
      refine h.goto hs hp fun d hd => ?_
      obtain rfl := Duty.eq_loop_of_rLstop hx hd
      exact hlt
    next => exact h.goto_new hs hp .loop hlt

/-- W_LOAD reads BUF and leaves it (42 R174). -/
theorem Inv.load {t : State} (h : Inv s) (hs : s.setup = false) (hp : s.seq = .wLoad) (ht : stepLoad s = .next t) :
    Inv t := by
  obtain ⟨-, rfl⟩ := stepLoad_next ht
  have hu : Inv (({ s with v := s.buf.read s.idx }).log (.bufRead s.idx (s.buf.read s.idx))) := { h with }
  exact hu.goto_same hs hp

/-- R_STORE stores inside BUF, which keeps its canonical form (43 R206). -/
theorem Inv.store {t : State} (h : Inv s) (hs : s.setup = false) (hp : s.seq = .rStore)
    (ht : stepStore s = .next t) : Inv t := by
  obtain ⟨hi, rfl⟩ := stepStore_next ht
  have hbufs : bufsWf { s with buf := s.buf.write s.idx s.v } = true := by
    have hb := h.bufs_wf
    simp only [bufsWf, Bool.and_eq_true] at hb ⊢
    obtain ⟨⟨hbuf, hoffer⟩, hcalls⟩ := hb
    exact ⟨⟨Buffer.wf_write s.v hbuf ((s.bufIndexOk_iff s.idx).1 hi).2, hoffer⟩, hcalls⟩
  have hu : Inv (({ s with buf := s.buf.write s.idx s.v }).log (.bufWrite s.idx s.v)) :=
    { h with bufs_wf := hbufs }
  exact hu.goto_same hs hp

/-- AP_SEL takes the branch of the address's range (41 R152). -/
theorem Inv.select (h : Inv s) (hs : s.setup = false) (hp : s.seq = .apSel) :
    Inv (s.goto (if ten s.addr then .ap10Hdr else .ap7Addr)) := by
  split
  next ht => exact h.goto_new hs hp .tenBit ht
  next ht => exact h.goto_new hs hp .sevenBit (Bool.eq_false_of_not_eq_true ht)

/-- T_IRQ_OFF opens the bracket (41 R150). -/
theorem Inv.irqOff (h : Inv s) (hs : s.setup = false) (hp : s.seq = .tIrqOff) :
    Inv ((s.setIe false).goto .tReset) :=
  have hu : Inv (s.setIe false) := { h with ie_off := fun _ _ => rfl }
  hu.goto_new hs hp .bracket rfl

/-! Register writes and their delay. -/

theorem Inv.writeCsr (h : Inv s) (hw : writesRegister s.seq = true)
    (hl : s.seq = .slPass → s.slActions.headD .attach ≠ .attach) (w : Byte) : Inv (s.writeCsr w) :=
  { h with setup_writes := fun _ => ⟨hw, hl⟩ }

theorem Inv.writeData (h : Inv s) (hw : writesRegister s.seq = true)
    (hl : s.seq = .slPass → s.slActions.headD .attach ≠ .attach) (b : Byte) : Inv (s.writeData b) :=
  { h with setup_writes := fun _ => ⟨hw, hl⟩ }

theorem Inv.registerWrite {t : State} (h : Inv s) (hs : s.setup = false) (hw : writesRegister s.seq = true)
    (hsl : s.seq ≠ .slPass) (hl : s.seq = .rLstop → s.idx + 1 = s.len) (ht : step s = .next t) : Inv t := by
  obtain ⟨w, hr⟩ | ⟨b, hr⟩ := step_registerWrite hs hw hsl hl <;> rw [hr] at ht <;> cases ht
  · exact h.writeCsr hw (fun hq => absurd hq hsl) w
  · exact h.writeData hw (fun hq => absurd hq hsl) b

/-! The idle ENGINE. -/

/-- The idle ENGINE has no duty. -/
theorem Inv.of_idle (hq : s.seq = .sIdle) (hb : s.busy = false) (hs : s.setup = false)
    (hr : s.ret ≠ 0 → checkFails s.ret = true) (hbufs : bufsWf s = true)
    (hc : s.cfg.csrAddr ≠ s.cfg.dataAddr) : Inv s :=
  .of_duties (by simp [hq, hb]) (by simp [hs]) hr hbufs hc (by rw [hq]; exact nofun)

/-- The end of a transaction (60 R245, R246). -/
theorem Inv.finish (h : Inv s) (hs : s.setup = false) {x : Byte} (hx : x ≠ 0 → checkFails x = true) :
    Inv (s.finish x) :=
  .of_idle rfl rfl hs hx h.bufs_wf h.reg_distinct

theorem Inv.nextSlave (h : Inv s) (hs : s.setup = false) : Inv s.nextSlave := by
  obtain ⟨-, hr⟩ | ⟨-, hr⟩ := s.nextSlave_cases <;> rw [hr]
  · exact { h with setup_writes := fun hs' => by cases hs.symm.trans hs' }
  · exact .of_idle rfl rfl hs h.ret_class h.bufs_wf h.reg_distinct

theorem Inv.present {c : HostCall} {rest : List HostCall} (h : Inv s) (hc : s.calls = c :: rest) :
    Inv (s.present c rest) :=
  { h with
    bufs_wf := by
      have hb := h.bufs_wf
      simp only [bufsWf, hc, List.all_cons, Bool.and_eq_true] at hb
      obtain ⟨⟨hbuf, -⟩, hoffer, hrest⟩ := hb
      simp [bufsWf, hbuf, hoffer, hrest] }

theorem Inv.blockReset {c : HostCall} {rest : List HostCall} (h : Inv s) (hc : s.calls = c :: rest) :
    Inv { s.blockReset with calls := { c with reset := false } :: rest } := by
  refine .of_idle rfl rfl rfl (by simp) ?_ h.reg_distinct
  have hb := h.bufs_wf
  simpa [bufsWf, hc] using hb

/-- A command accepted by an idle ENGINE (10_state R26). -/
theorem Inv.acceptMaster {t : State} {op : BitVec 2} {a : DevAddr} {sub : Byte} {n : Nat} (h : Inv s)
    (hs : s.setup = false) (ho : op = 1 ∨ op = 2) (hn : n < 2 ^ s.cfg.lenW)
    (ht : s.acceptMaster op a sub n = .next t) : Inv t := by
  obtain ⟨-, rfl⟩ | ⟨-, hb, rfl⟩ := State.acceptMaster_next ht
  · exact h
  · refine .of_duties (by simp) (by simp [hs]) h.ret_class ?_ h.reg_distinct ?_
    · have hbufs := h.bufs_wf
      simp only [bufsWf, Bool.and_eq_true] at hbufs ⊢
      exact ⟨⟨hbufs.1.2, hbufs.1.2⟩, hbufs.2⟩
    · have hd : Duty.ofSeq s.cfg .tIrqOff = [.master] := rfl
      simp only [hd, List.forall_mem_singleton]
      exact ⟨ho, hb, hn⟩

theorem Inv.registerSlave {t : State} {a : DevAddr} {sub : Byte} {n : Nat} (h : Inv s) (hs : s.setup = false)
    (ht : execRegisterSlave a sub n s = .next t) : Inv t := by
  obtain ⟨-, rfl⟩ | ⟨-, hx, rfl⟩ := execRegisterSlave_next ht
  · exact h
  · refine .of_duties (by simp) (by simp [hs]) h.ret_class h.bufs_wf h.reg_distinct ?_
    have hd : Duty.ofSeq s.cfg .slPass = [.slave] := rfl
    simp only [hd, List.forall_mem_singleton]
    exact ⟨rfl, hx⟩

/-- A command read from F-CMD keeps Inv. -/
theorem Inv.command {t : State} {i : Instr} {lenW w : Nat} (h : Inv s) (hs : s.setup = false)
    (hl : s.cfg.lenW = lenW) (hi : decodeCommand lenW w = .ok i) (ht : exec i s = .next t) : Inv t := by
  obtain ⟨hslot, hwf⟩ := decodeCommand_ok hi
  subst hl
  cases i with
  | masterWrite => exact h.acceptMaster hs (.inl rfl) (of_decide_eq_true hwf) ht
  | masterRead => exact h.acceptMaster hs (.inr rfl) (of_decide_eq_true hwf) ht
  | registerSlave a sub n => exact h.registerSlave (sub := sub) (n := n) hs ht
  | noCommand => cases ht; exact h
  | _ => cases hslot

end moves

/-! Every step. -/

theorem Inv.stepSetup {s t : State} (h : Inv s) (hs : s.setup = true) (ht : stepSetup s = .next t) : Inv t := by
  cases ht
  have hu : Inv { s.log (.delay s.cfg.tSetup) with setup := false } := { h with setup_writes := nofun }
  split
  next => exact hu.nextSlave rfl
  next hq => exact hu.goto_afterSetup rfl (h.setup_writes hs).1 hq

theorem Inv.stepIdle {s t : State} (h : Inv s) (hs : s.setup = false) (hq : s.seq = .sIdle)
    (ht : step s = .next t) : Inv t := by
  obtain ⟨-, rfl⟩ | ⟨c, rest, hc, ⟨-, rfl⟩ | ⟨-, i, hi, ht⟩⟩ := step_idle_next hs hq ht
  · exact h
  · exact h.blockReset hc
  · exact (h.present hc).command hs rfl hi ht

/-- SL_PASS (44 R231). -/
theorem Inv.stepSlave {s t : State} (h : Inv s) (hs : s.setup = false) (hq : s.seq = .slPass)
    (ht : step s = .next t) : Inv t := by
  have hw : writesRegister s.seq = true := by rw [hq]; rfl
  cases hl : s.slActions with
  | nil =>
    rw [step_slaveDone hs hq hl] at ht
    cases ht; exact h.nextSlave hs
  | cons x l =>
    have hx : x ≠ .attach → s.seq = .slPass → s.slActions.headD .attach ≠ .attach := fun hx _ => by
      rwa [hl]
    cases x with
    | convey w =>
      rw [step_slaveConvey hs hq hl] at ht
      cases ht
      obtain ⟨x, -, hr⟩ | ⟨b, -, hr⟩ := s.convey_cases w <;> rw [hr]
      · exact h.writeCsr hw (hx nofun) _
      · exact h.writeData hw (hx nofun) b
    | reset =>
      rw [step_slaveReset hs hq hl] at ht
      cases ht
      have hu := h.writeCsr hw (hx nofun) (slaveResetByte (namedHigh s.cfg.stop s.slResetHi) s.slResetLo)
      exact { hu with }
    | attach =>
      rw [step_slaveAttach hs hq hl] at ht
      cases ht
      exact Inv.nextSlave { h with } hs
    | enable =>
      rw [step_slaveEnable hs hq hl] at ht
      cases ht; exact h.writeCsr hw (hx nofun) _

/-- A master transaction, with no delay due. -/
theorem Inv.stepMaster {s t : State} (h : Inv s) (hs : s.setup = false) (hq : inMaster s.seq = true)
    (ht : step s = .next t) : Inv t := by
  cases hp : s.seq with
  | sIdle | slPass => rw [hp] at hq; cases hq
  | ap10Wait | wWait | wFwait | wIdle | rWait1 | rWait2 | rPidle | rWait3 | rPoll | rIdle =>
    obtain ⟨m, hm⟩ : ∃ m, waitMode s.cfg s.seq = some m := by rw [hp]; exact ⟨_, rfl⟩
    rw [step_wait hs hm] at ht
    cases ht; exact h.pollStep hs hm
  | tReset | ap10Hdr | ap10Start | ap10Low | ap7Addr | ap7Start | wByte | wStop | rSub | rReaddr | rPivot | rStart
  | rDummy =>
    exact h.registerWrite hs (by rw [hp]; rfl) (by rw [hp]; nofun) (by rw [hp]; nofun) ht
  | rLstop =>
    by_cases hl : s.idx + 1 = s.len
    · exact h.registerWrite hs (by rw [hp]; rfl) (by rw [hp]; nofun) (fun _ => hl) ht
    · rw [step_notLast hs hp hl] at ht; cases ht; exact h.goto_afterLstop hs hp
  | tIrqOff => rw [step_irqOff hs hp] at ht; cases ht; exact h.irqOff hs hp
  | apSel => rw [step_select hs hp] at ht; cases ht; exact h.select hs hp
  | wInit =>
    rw [step_writeInit hs hp] at ht; cases ht
    have hu : Inv { s with idx := 0 } := h.setIdx (by rw [hp]; rfl) (by rw [hp]; rfl) (by rw [hp]; nofun)
    exact hu.goto_new hs hp .atTest (Nat.zero_le _)
  | rInit =>
    rw [step_readInit hs hp] at ht; cases ht
    have hu : Inv { s with idx := 0 } := h.setIdx (by rw [hp]; rfl) (by rw [hp]; rfl) (by rw [hp]; nofun)
    exact hu.goto_new hs hp .atTest (Nat.zero_le _)
  | wTest => rw [step_writeTest hs hp] at ht; cases ht; exact h.writeTest hs hp
  | rTest => rw [step_readTest hs hp] at ht; cases ht; exact h.readTest hs hp
  | wInc => rw [step_writeInc hs hp] at ht; cases ht; exact h.increment hs (.inl ⟨hp, rfl⟩)
  | rInc => rw [step_readInc hs hp] at ht; cases ht; exact h.increment hs (.inr ⟨hp, rfl⟩)
  | wLoad => rw [step_load hs hp] at ht; exact h.load hs hp ht
  | rStore => rw [step_store hs hp] at ht; exact h.store hs hp ht
  | rCheck => rw [step_check hs hp] at ht; cases ht; exact h.checkSnapshot hs hp
  | rFetch =>
    rw [step_fetch hs hp] at ht; cases ht
    have hu : Inv s.readData := { h with }
    exact hu.goto_same hs hp
  | tOk => rw [step_ok hs hp] at ht; cases ht; exact h.finish hs (fun hx => absurd rfl hx)
  | tAbort => rw [step_abort hs hp] at ht; cases ht; exact h.finish hs (fun _ => h.abort_class hp)

/-- Settles O46: a delay, the idle ENGINE, SL_PASS and a master transaction each keep the invariant. -/
theorem stepKeepsInvariant : Obligations.StepKeepsInvariant := by
  intro s t h ht
  cases hs : s.setup
  · by_cases hi : s.seq = .sIdle
    · exact h.stepIdle hs hi ht
    · by_cases hsl : s.seq = .slPass
      · exact h.stepSlave hs hsl ht
      · exact h.stepMaster hs (by simp [inMaster, hi, hsl]) ht
  · rw [step_setup hs] at ht
    exact h.stepSetup hs ht

end Sys2Proof.Safety
end

section
/-! What a step leaves as it was: the frame of the rows of the opcode table, and of every step. -/

namespace Sys2Proof.Machine

open Sys2Proof.Safety

/-- What a row that is no command may write: SEQ, PSEQ, the delay, T, R, the CSR's views, the DATA write view, the
response address and the trace. -/
def RowFrame (s t : State) : Prop :=
  t = { s with
    seq := t.seq, pseq := t.pseq, setup := t.setup, t := t.t, r := t.r, abortSrc := t.abortSrc
    csrWrite := t.csrWrite, dataWrite := t.dataWrite, csrAnswers := t.csrAnswers, csrReads := t.csrReads
    slaveAddr := t.slaveAddr, trace := t.trace }

/-- What a command may write: the operands, BUSY, BUF, SEQ and what REGISTER_SLAVE keeps. -/
def CommandFrame (s t : State) : Prop :=
  t = { s with
    op := t.op, addr := t.addr, subaddr := t.subaddr, len := t.len, busy := t.busy, buf := t.buf, seq := t.seq
    slaveCalls := t.slaveCalls, slActions := t.slActions, slResetHi := t.slResetHi, slResetLo := t.slResetLo
    slEnableHi := t.slEnableHi, slEnableLo := t.slEnableLo, slAddr := t.slAddr, slCallback := t.slCallback }
  ∧ (t.buf = s.buf ∨ t.buf = s.offer.buffer)

theorem RowFrame.registers {s t : State} (h : RowFrame s t) :
    t.cfg = s.cfg ∧ t.ret = s.ret ∧ t.buf = s.buf ∧ t.dataReads = s.dataReads ∧ t.busy = s.busy := by
  rw [h]
  exact ⟨rfl, rfl, rfl, rfl, rfl⟩

theorem CommandFrame.registers {s t : State} (h : CommandFrame s t) :
    t.cfg = s.cfg ∧ t.ret = s.ret ∧ t.csrReads = s.csrReads ∧ t.dataReads = s.dataReads := by
  rw [h.1]
  exact ⟨rfl, rfl, rfl, rfl⟩

theorem State.acceptMaster_frame {s t : State} {op : BitVec 2} {a : DevAddr} {sub : Byte} {n : Nat}
    (h : s.acceptMaster op a sub n = .next t) : CommandFrame s t := by
  obtain ⟨-, rfl⟩ | ⟨-, -, rfl⟩ := State.acceptMaster_next h
  · exact ⟨rfl, .inl rfl⟩
  · exact ⟨rfl, .inr rfl⟩

theorem execRegisterSlave_frame {s t : State} {a : DevAddr} {sub : Byte} {n : Nat}
    (h : execRegisterSlave a sub n s = .next t) : CommandFrame s t := by
  obtain ⟨-, rfl⟩ | ⟨-, -, rfl⟩ := execRegisterSlave_next h <;> exact ⟨rfl, .inl rfl⟩

theorem exec_commandFrame {i : Instr} {s t : State} (hi : i.slot = .cmd) (h : exec i s = .next t) :
    CommandFrame s t := by
  cases i with
  | masterWrite | masterRead => exact State.acceptMaster_frame h
  | registerSlave a sub n => exact execRegisterSlave_frame (sub := sub) (n := n) h
  | noCommand => cases h; exact ⟨rfl, .inl rfl⟩
  | _ => cases hi

/-- What a row that is neither a command nor a wait may write: it reads no CSR either. -/
def QuietFrame (s t : State) : Prop := RowFrame s t ∧ t.csrReads = s.csrReads

theorem State.pollTest_quiet (s : State) (m : WMode) : QuietFrame s (s.pollTest m) := by
  obtain ⟨-, h⟩ | ⟨-, -, h⟩ | ⟨-, -, h⟩ := s.pollTest_cases m <;> rw [h]
  · exact ⟨rfl, rfl⟩
  · exact ⟨rfl, rfl⟩
  · obtain ⟨-, h⟩ | ⟨-, h⟩ := s.endClassified_cases <;> rw [h] <;> exact ⟨rfl, rfl⟩

theorem State.checkSnapshot_quiet (s : State) : QuietFrame s s.checkSnapshot := by
  obtain ⟨-, h⟩ | ⟨-, h⟩ := s.checkSnapshot_cases <;> rw [h] <;> exact ⟨rfl, rfl⟩

/-- A rule with two outcomes has the frame of both (the classes of a snapshot). -/
theorem quietFrame_of_ite_next {c : Prop} [Decidable c] {s t x y : State}
    (h : (if c then .next x else .next y : Result) = .next t) (hx : QuietFrame s x) (hy : QuietFrame s y) :
    QuietFrame s t := by
  split at h <;> cases h <;> assumption

theorem exec_quietFrame {i : Instr} {s t : State} (hi : i.slot ≠ .cmd) (hw : i.slot ≠ .wmode)
    (h : exec i s = .next t) : QuietFrame s t := by
  cases i with
  | masterWrite | masterRead | registerSlave | noCommand => exact absurd rfl hi
  | waitReq | waitAny | waitRdy | waitIdle => exact absurd rfl hw
  | cwReset | cwStartW | cwStopW | cwPivot | cwStartR | cwStopR | cwSlaveReset | cwSlaveEnable =>
    cases h; exact ⟨rfl, rfl⟩
  | hdr10W | hdr10R | addr7W | addr7R | subaddrByte | wdataByte | dummyByte => cases h; exact ⟨rfl, rfl⟩
  | stReqSpin | stIdleSpin | stIdleEnd => cases h; exact ⟨rfl, rfl⟩
  | stRdySpin => exact quietFrame_of_ite_next h s.checkSnapshot_quiet ⟨rfl, rfl⟩
  | stReqProceed | stReqTerminal | stRdyAccept | stRdyAbortIdle | stRdyAbortNack =>
    exact quietFrame_of_ite_next h ⟨rfl, rfl⟩ ⟨rfl, rfl⟩

/-- A step of a poll reads the CSR in its read only (20_memory R66). -/
theorem State.pollStep_frame (s : State) (m : WMode) :
    RowFrame s (s.pollStep m) ∧ ((s.pollStep m).csrReads ≠ s.csrReads → s.pseq = .pRead) := by
  obtain ⟨hp, h⟩ | ⟨-, h⟩ | ⟨-, h⟩ := s.pollStep_cases m <;> rw [h]
  · exact ⟨rfl, fun _ => hp⟩
  · exact ⟨rfl, fun hne => absurd rfl hne⟩
  · obtain ⟨hf, hc⟩ := s.pollTest_quiet m
    exact ⟨hf, fun hne => absurd hc hne⟩

theorem exec_rowFrame {i : Instr} {s t : State} (hi : i.slot ≠ .cmd) (h : exec i s = .next t) : RowFrame s t := by
  by_cases hw : i.slot = .wmode
  · cases i with
    | waitReq | waitAny | waitRdy | waitIdle => cases h; exact (s.pollStep_frame _).1
    | _ => cases hw
  · exact (exec_quietFrame hi hw h).1

/-- Settles O51, by the frame of a command and that of every other row. -/
theorem instructionFrame : Obligations.InstructionFrame := by
  intro i s t h
  by_cases hi : i.slot = .cmd
  · obtain ⟨hf, hb⟩ := exec_commandFrame hi h
    rw [hf]
    exact ⟨rfl, rfl, rfl, rfl, rfl, rfl, rfl, rfl, rfl, rfl, fun hn => absurd hi hn, fun _ => hb⟩
  · have hf := exec_rowFrame hi h
    rw [hf]
    exact ⟨rfl, rfl, rfl, rfl, rfl, rfl, rfl, rfl, rfl, rfl,
      fun _ => ⟨rfl, rfl, rfl, rfl, rfl, fun _ => rfl⟩, fun hc => absurd hc hi⟩

theorem classifyRdy_slot (t : Byte) : (classifyRdy t).slot = .statusRdy := by
  obtain ⟨-, _, _, _, h⟩ | ⟨-, -, _, _, h⟩ | ⟨-, -, ⟨_, _, _, _, h⟩ | ⟨_, _, h⟩⟩ := classifyRdy_cases t <;>
    rw [h] <;> rfl

/-- A state that does not wait issues neither a command nor a wait. -/
theorem issue_slot {s : State} {i : Instr} (hn : waitMode s.cfg s.seq = none) (hi : issue s = some i) :
    i.slot ≠ .cmd ∧ i.slot ≠ .wmode := by
  unfold issue at hi
  cases hq : s.seq with
  | ap10Wait | wWait | wFwait | wIdle | rWait1 | rWait2 | rPidle | rWait3 | rPoll | rIdle => rw [hq] at hn; cases hn
  | rReaddr => rw [hq] at hi; cases hi; split <;> exact ⟨nofun, nofun⟩
  | rCheck =>
    rw [hq] at hi; cases hi
    rw [classifyRdy_slot]
    exact ⟨nofun, nofun⟩
  | rLstop =>
    rw [hq] at hi
    simp only at hi
    split at hi <;> cases hi
    exact ⟨nofun, nofun⟩
  | slPass =>
    rw [hq] at hi
    simp only at hi
    split at hi <;> cases hi <;> exact ⟨nofun, nofun⟩
  | tReset | ap10Hdr | ap10Start | ap10Low | ap7Addr | ap7Start | wByte | wStop | rSub | rPivot | rStart | rDummy =>
    rw [hq] at hi; cases hi; exact ⟨nofun, nofun⟩
  | sIdle | tIrqOff | apSel | wInit | wTest | wLoad | wInc | rInit | rTest | rFetch | rStore | rInc | tOk | tAbort =>
    rw [hq] at hi; cases hi

/-! Who writes and who reads, in every step. -/

/-- A step that changes one of these registers is a step of one of these states. -/
structure StepFrame (s t : State) : Prop where
  cfg : t.cfg = s.cfg
  ret : t.ret ≠ s.ret → s.seq = .tOk ∨ s.seq = .tAbort
    ∨ s.seq = .sIdle ∧ ∃ c rest, s.calls = c :: rest ∧ c.reset = true
  buf : t.buf ≠ s.buf → s.seq = .rStore ∨ s.seq = .sIdle
  csrReads : t.csrReads ≠ s.csrReads → isWaiting s.cfg s.seq = true ∧ s.pseq = .pRead
  dataReads : t.dataReads ≠ s.dataReads → s.seq = .rFetch
  busy : t.busy ≠ s.busy → s.seq = .tOk ∨ s.seq = .tAbort ∨ s.seq = .slPass ∨ s.seq = .sIdle

namespace StepFrame
variable {s t : State}

/-- A step that changes none of them. -/
theorem of_same (cfg : t.cfg = s.cfg) (ret : t.ret = s.ret) (buf : t.buf = s.buf) (csr : t.csrReads = s.csrReads)
    (data : t.dataReads = s.dataReads) (busy : t.busy = s.busy) : StepFrame s t where
  cfg := cfg
  ret h := absurd ret h
  buf h := absurd buf h
  csrReads h := absurd csr h
  dataReads h := absurd data h
  busy h := absurd busy h

theorem refl (s : State) : StepFrame s s := .of_same rfl rfl rfl rfl rfl rfl

theorem of_quietFrame (h : QuietFrame s t) : StepFrame s t := by
  obtain ⟨hf, hc⟩ := h
  obtain ⟨cfg, ret, buf, data, busy⟩ := hf.registers
  exact .of_same cfg ret buf hc data busy

theorem of_nextSlave (h : StepFrame s t) (hq : s.seq = .slPass) : StepFrame s t.nextSlave := by
  obtain ⟨-, hr⟩ | ⟨-, hr⟩ := t.nextSlave_cases <;> rw [hr]
  · exact { h with }
  · exact { h with busy := fun _ => .inr (.inr (.inl hq)) }

theorem of_finish (hq : s.seq = .tOk ∨ s.seq = .tAbort) (x : Byte) : StepFrame s (s.finish x) :=
  { refl s with
    ret := fun _ => hq.imp_right .inl
    busy := fun _ => hq.imp_right .inl }

theorem of_pollStep {m : WMode} (hm : waitMode s.cfg s.seq = some m) : StepFrame s (s.pollStep m) := by
  obtain ⟨hf, hc⟩ := s.pollStep_frame m
  obtain ⟨cfg, ret, buf, data, busy⟩ := hf.registers
  exact {
    cfg := cfg
    ret := fun h => absurd ret h
    buf := fun h => absurd buf h
    csrReads := fun h => ⟨by simp [isWaiting, hm], hc h⟩
    dataReads := fun h => absurd data h
    busy := fun h => absurd busy h }

theorem of_stepSetup (h : stepSetup s = .next t) : StepFrame s t := by
  cases h
  have hu : StepFrame s { s.log (.delay s.cfg.tSetup) with setup := false } := { refl s with }
  split
  next hq => exact hu.of_nextSlave hq
  next => exact { hu with }

/-- An idle ENGINE takes a command or is reset. -/
theorem of_idle (hs : s.setup = false) (hq : s.seq = .sIdle) (h : step s = .next t) : StepFrame s t := by
  obtain ⟨-, rfl⟩ | ⟨c, rest, hc, ⟨hr, rfl⟩ | ⟨-, i, hi, hx⟩⟩ := step_idle_next hs hq h
  · exact refl _
  · exact { refl s with
      ret := fun _ => .inr (.inr ⟨hq, c, rest, hc, hr⟩)
      busy := fun _ => .inr (.inr (.inr hq)) }
  · obtain ⟨cfg, ret, csr, data⟩ := (exec_commandFrame (decodeCommand_ok hi).1 hx).registers
    exact {
      cfg := cfg
      ret := fun h => absurd ret h
      buf := fun _ => .inr hq
      csrReads := fun h => absurd csr h
      dataReads := fun h => absurd data h
      busy := fun _ => .inr (.inr (.inr hq)) }

/-- SL_PASS when its next action is no row. -/
theorem of_stepSlave (hq : s.seq = .slPass) (h : stepSlave s = .next t) : StepFrame s t := by
  unfold stepSlave at h
  split at h
  · cases h; exact (refl s).of_nextSlave hq
  next w _ _ =>
    cases h
    obtain ⟨x, -, hr⟩ | ⟨b, -, hr⟩ := s.convey_cases w <;> rw [hr] <;> exact { refl s with }
  · cases h; exact of_nextSlave { refl s with } hq
  · cases h; exact refl s
  · cases h; exact refl s

theorem of_stepUnissued (hi : s.seq ≠ .sIdle) (h : stepUnissued s = .next t) : StepFrame s t := by
  unfold stepUnissued at h
  cases hq : s.seq with
  | sIdle => exact absurd hq hi
  | slPass => rw [hq] at h; exact .of_stepSlave hq h
  | tOk => rw [hq] at h; cases h; exact .of_finish (.inl hq) _
  | tAbort => rw [hq] at h; cases h; exact .of_finish (.inr hq) _
  | rFetch =>
    rw [hq] at h; cases h
    exact { refl s with dataReads := fun _ => hq }
  | rStore =>
    rw [hq] at h
    obtain ⟨-, rfl⟩ := stepStore_next h
    exact { refl s with buf := fun _ => .inl hq }
  | wLoad =>
    rw [hq] at h
    obtain ⟨-, rfl⟩ := stepLoad_next h
    exact { refl s with }
  | _ => rw [hq] at h; cases h; exact { refl s with }

end StepFrame

/-- Every step has the frame. -/
theorem step_frame {s t : State} (h : step s = .next t) : StepFrame s t := by
  cases hs : s.setup
  · by_cases hi : s.seq = .sIdle
    · exact .of_idle hs hi h
    · cases hm : waitMode s.cfg s.seq with
      | some m =>
        rw [step_wait hs hm] at h
        cases h
        exact .of_pollStep hm
      | none =>
        cases hx : issue s with
        | some i =>
          rw [step_issue hs hi hx] at h
          obtain ⟨hc, hw⟩ := issue_slot hm hx
          exact .of_quietFrame (exec_quietFrame hc hw h)
        | none =>
          rw [step_unissued hs (by rw [issued_busy hi, hx]; rfl)] at h
          exact .of_stepUnissued hi h
  · rw [step_setup hs] at h
    exact .of_stepSetup h

/-- Settles O50, by the frame of a step. -/
theorem writersAndReaders : Obligations.WritersAndReaders := by
  intro s t h
  have hf := step_frame h
  exact ⟨hf.cfg, hf.ret, hf.buf, hf.csrReads, hf.dataReads⟩

/-- A status with IDLE or NO_ACK set is not 0 and has bit 7 or bit 6 set (30_encoding R114). -/
theorem and_ne_zero_of_checkFails (x : Byte) (h : checkFails x = true) : x ≠ 0 ∧ x &&& 0xC0 ≠ 0 := by
  revert x; decide

/-- Settles O52: BUSY falls in T_OK, which writes 0, and in T_ABORT, which writes the status Inv speaks of. -/
theorem retTellsThePath : Obligations.RetTellsThePath := by
  intro s t hinv h hb hbt hsl
  have hi : s.seq ≠ .sIdle := hinv.busy_iff.1 hb
  have hs (hw : writesRegister s.seq = false) : s.setup = false := by
    by_contra hs
    cases (hinv.setup_writes (by simpa using hs)).1.symm.trans hw
  obtain hq | hq | hq | hq := (step_frame h).busy (by simp [hb, hbt])
  · rw [step_ok (hs (by rw [hq]; rfl)) hq] at h
    cases h
    simp [State.finish, hq]
  · rw [step_abort (hs (by rw [hq]; rfl)) hq] at h
    cases h
    obtain ⟨hne, hc⟩ := and_ne_zero_of_checkFails _ (hinv.abort_class hq)
    exact ⟨⟨fun h0 => absurd h0 hne, fun ho => by cases hq.symm.trans ho⟩, fun _ => hc, rfl⟩
  · exact absurd hq hsl
  · exact absurd hq hi

end Sys2Proof.Machine
end

section
/-! The external action of a step (20_memory R66, R67, R69): after a register write a delay is due, and a CSR read is
the read of a poll, so that the delay which follows each is the next step. -/

namespace Sys2Proof.Machine

open Sys2Proof.Safety

/-- The actions that Delay(T_SETUP) or Delay(T_POLL) follows (20_memory R73). -/
def wantsDelay : Action → Bool
  | .csrRead _ => true
  | a => isRegWrite a

/-- What the step from s to t did to the CSR and the DATA write view: a register write, the read of a poll, or
nothing that a delay follows. -/
inductive Access (s t : State) : Prop
  | write (a : Action) (isWrite : isRegWrite a = true) (trace : t.trace = a :: s.trace) (due : t.setup = true)
  | poll (m : WMode) (setup : s.setup = false) (wait : waitMode s.cfg s.seq = some m) (next : t = s.pollRead)
  | other (quiet : ∀ a, t.trace = a :: s.trace → wantsDelay a = false)

/-- A command makes no external action (10_state R26). -/
theorem exec_command_trace {i : Instr} {s t : State} (hi : i.slot = .cmd) (h : exec i s = .next t) :
    t.trace = s.trace := by
  cases i with
  | masterWrite | masterRead => exact State.acceptMaster_trace h
  | registerSlave a sub n => exact execRegisterSlave_trace (a := a) (sub := sub) (n := n) h
  | noCommand => cases h; rfl
  | _ => cases hi

namespace Access
variable {s t : State}

theorem of_same (h : t.trace = s.trace) : Access s t :=
  .other fun a ha => absurd (ha.symm.trans h) (List.cons_ne_self a s.trace)

theorem of_cons {a : Action} (h : t.trace = a :: s.trace) (ha : wantsDelay a = false) : Access s t :=
  .other fun _ hb => by
    obtain ⟨rfl, -⟩ := List.cons.inj (h.symm.trans hb)
    exact ha

theorem of_convey (s : State) (w : RegWrite) : Access s (s.convey w) := by
  obtain ⟨x, -, hr⟩ | ⟨b, -, hr⟩ := s.convey_cases w <;> rw [hr]
  · exact .write _ rfl (s.writeCsr_trace _) rfl
  · exact .write _ rfl (s.writeData_trace b) rfl

/-- A step of a poll is its read, its delay, or a test with no action (40 R131). -/
theorem of_pollStep {m : WMode} (hs : s.setup = false) (hm : waitMode s.cfg s.seq = some m) :
    Access s (s.pollStep m) := by
  obtain ⟨-, hr⟩ | ⟨-, hr⟩ | ⟨-, hr⟩ := s.pollStep_cases m <;> rw [hr]
  · exact .poll m hs hm rfl
  · exact .of_cons s.pollDelay_trace rfl
  · exact .of_same (s.pollTest_trace m)

/-- A row that is neither a command nor a wait writes a register or makes no action. -/
theorem of_row {i : Instr} (hi : i.slot ≠ .cmd) (hw : i.slot ≠ .wmode) (h : exec i s = .next t) : Access s t := by
  cases i with
  | masterWrite | masterRead | registerSlave | noCommand => exact absurd rfl hi
  | waitReq | waitAny | waitRdy | waitIdle => exact absurd rfl hw
  | cwReset | cwStartW | cwStopW | cwPivot | cwStartR | cwStopR | cwSlaveReset | cwSlaveEnable =>
    cases h; exact .write _ rfl (s.writeCsr_trace _) rfl
  | hdr10W | hdr10R | addr7W | addr7R | subaddrByte | wdataByte | dummyByte =>
    cases h; exact .write _ rfl (s.writeData_trace _) rfl
  | stReqSpin | stIdleSpin | stIdleEnd => cases h; exact .of_same rfl
  | stRdySpin => exact .of_same (trace_of_ite_next h s.checkSnapshot_trace rfl)
  | stReqProceed | stReqTerminal | stRdyAccept | stRdyAbortIdle | stRdyAbortNack =>
    exact .of_same (trace_of_ite_next h rfl rfl)

theorem of_idle (hs : s.setup = false) (hq : s.seq = .sIdle) (h : step s = .next t) : Access s t := by
  obtain ⟨-, rfl⟩ | ⟨c, rest, -, ⟨-, rfl⟩ | ⟨-, i, hi, hx⟩⟩ := step_idle_next hs hq h
  · exact .of_same rfl
  · exact .of_same rfl
  · exact .of_same (exec_command_trace (s := s.present c rest) (decodeCommand_ok hi).1 hx)

/-- SL_PASS when its next action is no row. -/
theorem of_stepSlave (h : stepSlave s = .next t) : Access s t := by
  unfold stepSlave at h
  split at h
  · cases h; exact .of_same s.nextSlave_trace
  · cases h; exact .of_convey s _
  · exact .of_cons (stepAttach_trace h) rfl
  · cases h; exact .of_same rfl
  · cases h; exact .of_same rfl

/-- Of the steps of the sequencer only the conveyance of the response address writes a register. -/
theorem of_stepUnissued (hi : s.seq ≠ .sIdle) (h : stepUnissued s = .next t) : Access s t := by
  unfold stepUnissued at h
  cases hq : s.seq with
  | sIdle => exact absurd hq hi
  | slPass => rw [hq] at h; exact .of_stepSlave h
  | tIrqOff => rw [hq] at h; cases h; exact .of_cons (s.setIe_trace false) rfl
  | wLoad => rw [hq] at h; exact .of_cons (stepLoad_trace h) rfl
  | rFetch => rw [hq] at h; cases h; exact .of_cons s.readData_trace rfl
  | rStore => rw [hq] at h; exact .of_cons (stepStore_trace h) rfl
  | tOk | tAbort => rw [hq] at h; cases h; exact .of_cons (s.finish_trace _) rfl
  | _ => rw [hq] at h; cases h; exact .of_same rfl

end Access

/-- Every step writes a register, reads the CSR for a poll, or makes no action that a delay follows. -/
theorem step_access {s t : State} (h : step s = .next t) : Access s t := by
  cases hs : s.setup
  · by_cases hi : s.seq = .sIdle
    · exact .of_idle hs hi h
    · cases hm : waitMode s.cfg s.seq with
      | some m =>
        rw [step_wait hs hm] at h
        cases h
        exact .of_pollStep hs hm
      | none =>
        cases hx : issue s with
        | some i =>
          rw [step_issue hs hi hx] at h
          obtain ⟨hc, hw⟩ := issue_slot hm hx
          exact .of_row hc hw h
        | none =>
          rw [step_unissued hs (by rw [issued_busy hi, hx]; rfl)] at h
          exact .of_stepUnissued hi h
  · rw [step_setup hs] at h
    exact .of_cons (stepSetup_trace h) rfl

/-! The delays (20_memory R73, 40 R133). -/

theorem step_delays_of_setup {s : State} (h : s.setup = true) :
    ∃ u, step s = .next u ∧ u.trace = .delay s.cfg.tSetup :: s.trace :=
  ⟨_, step_setup h, stepSetup_trace rfl⟩

theorem step_pollRead {s : State} {m : WMode} (hs : s.setup = false) (hm : waitMode s.cfg s.seq = some m) :
    step s.pollRead = .next s.pollRead.pollDelay :=
  step_wait (s := s.pollRead) hs hm

/-- Settles O13: a register write leaves a delay due, and the read of a poll is followed by its delay. -/
theorem delayFollowsAccess : Obligations.DelayFollowsAccess := by
  intro s t h
  cases step_access h with
  | write a ha htr hs =>
    refine ⟨fun _ _ => step_delays_of_setup hs, fun v hv => ?_⟩
    obtain ⟨rfl, -⟩ := List.cons.inj (htr.symm.trans hv)
    cases ha
  | poll m hs hm ht =>
    subst ht
    refine ⟨fun w hw => ?_, fun _ _ => ⟨_, step_pollRead hs hm, s.pollRead.pollDelay_trace⟩⟩
    obtain hw | hw := hw <;> cases hw
  | other hq =>
    refine ⟨fun w hw => ?_, fun v hv => by cases hq _ hv⟩
    obtain hw | hw := hw <;> cases hq _ hw

end Sys2Proof.Machine
end

section
/-! Faults (20_memory R62): no row of the opcode table faults, and of the steps of the sequencer only a buffer access
at an index outside BUF does. The invariant keeps IDX inside. -/

namespace Sys2Proof.Machine

open Sys2Proof.Safety

theorem State.acceptMaster_ne_fault (s : State) (op : BitVec 2) (a : DevAddr) (sub : Byte) (n : Nat) (f : Fault) :
    s.acceptMaster op a sub n ≠ .fault f := by
  unfold State.acceptMaster
  split_ifs <;> nofun

theorem execRegisterSlave_ne_fault (s : State) (a : DevAddr) (sub : Byte) (n : Nat) (f : Fault) :
    execRegisterSlave a sub n s ≠ .fault f := by
  unfold execRegisterSlave
  split_ifs <;> nofun

/-- A rule with two outcomes, neither of which faults (the classes of a snapshot). -/
theorem ite_next_ne_fault {c : Prop} [Decidable c] {x y : State} {f : Fault} :
    (if c then .next x else .next y : Result) ≠ .fault f := by
  split <;> nofun

/-- No row of the opcode table faults. -/
theorem exec_ne_fault (i : Instr) (s : State) (f : Fault) : exec i s ≠ .fault f := by
  cases i with
  | masterWrite | masterRead => exact s.acceptMaster_ne_fault _ _ _ _ f
  | registerSlave a sub n => exact execRegisterSlave_ne_fault s a sub n f
  | stReqProceed | stReqTerminal | stRdySpin | stRdyAccept | stRdyAbortIdle | stRdyAbortNack =>
    exact ite_next_ne_fault
  | _ => nofun

theorem stepIdle_ne_fault (s : State) (f : Fault) : stepIdle s ≠ .fault f := by
  unfold stepIdle
  split
  · nofun
  · split <;> nofun

theorem stepSlave_ne_fault (s : State) (f : Fault) : stepSlave s ≠ .fault f := by
  unfold stepSlave
  split <;> nofun

/-- A step of the sequencer that faults is a buffer access outside BUF (log 23). -/
theorem stepUnissued_fault {s : State} {f : Fault} (h : stepUnissued s = .fault f) :
    (s.seq = .wLoad ∨ s.seq = .rStore) ∧ s.bufIndexOk s.idx = false := by
  unfold stepUnissued at h
  cases hq : s.seq with
  | wLoad | rStore =>
    rw [hq] at h
    refine ⟨by simp, Bool.eq_false_of_not_eq_true fun hi => ?_⟩
    simp [stepLoad, stepStore, hi] at h
  | sIdle => rw [hq] at h; exact absurd h (stepIdle_ne_fault s f)
  | slPass => rw [hq] at h; exact absurd h (stepSlave_ne_fault s f)
  | _ => rw [hq] at h; cases h

/-- A step that faults is a buffer access outside BUF. -/
theorem step_fault {s : State} {f : Fault} (h : step s = .fault f) :
    (s.seq = .wLoad ∨ s.seq = .rStore) ∧ s.bufIndexOk s.idx = false := by
  obtain ⟨-, hs⟩ | ⟨-, i, u, -, hs⟩ | ⟨-, -, hs⟩ := step_cases s <;> rw [hs] at h
  · cases h
  · exact absurd h (exec_ne_fault i u f)
  · exact stepUnissued_fault h

/-- Where the buffer is accessed, IDX is an index of BUF (20_memory R62). -/
theorem bufIndexOk_of_inv {s : State} (h : Inv s) (hq : s.seq = .wLoad ∨ s.seq = .rStore) :
    s.bufIndexOk s.idx = true := by
  obtain ⟨hloop, hmaster⟩ : inLoop s.seq = true ∧ inMaster s.seq = true := by
    obtain hq | hq := hq <;> rw [hq] <;> exact ⟨rfl, rfl⟩
  have hidx : s.idx < s.len := h.idx_loop hloop
  exact (s.bufIndexOk_iff s.idx).2 ⟨hidx, hidx.trans_le (h.len_fits hmaster).1⟩

/-- Settles O47: a step that faults accesses the buffer outside BUF, where the invariant keeps IDX inside. -/
theorem invariantIsSafe : Obligations.InvariantIsSafe := by
  intro s hinv f h
  obtain ⟨hq, hi⟩ := step_fault h
  cases hi.symm.trans (bufIndexOk_of_inv hinv hq)

end Sys2Proof.Machine
end

section
/-! The command words of a master transaction (30_encoding R100). -/

namespace Sys2Proof.Machine

open Sys2Proof.Safety

/-- The six command words of R100 as configured, with the STOP rows at operand p. -/
def commandWords (c : Config) (p : StopFlag) : List (Instr × Byte) :=
  [(.cwReset, c.cwReset), (.cwStartW, c.cwStartW), (.cwStartR, c.cwStartR), (.cwStopW p, c.cwStopW),
    (.cwPivot p, c.cwPivot), (.cwStopR p, c.cwStopR)]

theorem defaultWords_iff (c : Config) :
    defaultWords c = true ↔
      c.cwReset = 0x09 ∧ c.cwStartW = 0x0A ∧ c.cwStopW = 0x08 ||| c.stop.mask
        ∧ c.cwPivot = 0x1C ||| c.stop.mask ∧ c.cwStartR = 0x0E ∧ c.cwStopR = 0x0C ||| c.stop.mask := by
  simp [defaultWords, and_assoc]

/-- Each of the six rows is one CSR write of the configured word (20_memory R67). -/
theorem exec_commandWords (s : State) (p : StopFlag) :
    ∀ x ∈ commandWords s.cfg p, exec x.1 s = .next (s.writeCsr x.2) := by
  simp only [commandWords, List.forall_mem_cons, List.not_mem_nil]
  exact ⟨rfl, rfl, rfl, rfl, rfl, rfl, nofun⟩

/-- At the defaults the configured words are the table's (log 11). -/
theorem toNat_commandWords {c : Config} (h : defaultWords c = true) :
    ∀ x ∈ commandWords c c.stop, x.2.toNat = encode x.1 := by
  obtain ⟨hreset, hstartW, hstopW, hpivot, hstartR, hstopR⟩ := (defaultWords_iff c).1 h
  simp only [commandWords, List.forall_mem_cons, List.not_mem_nil, hreset, hstartW, hstopW, hpivot, hstartR, hstopR]
  cases c.stop <;> exact ⟨rfl, rfl, rfl, rfl, rfl, rfl, nofun⟩

/-- Settles O34, by what each of the six rows executes and, at the defaults, encodes to. -/
theorem commandWordsWritten : Obligations.CommandWordsWritten := by
  intro s i w p hx
  refine ⟨exec_commandWords s p (i, w) hx, ?_⟩
  rintro hd rfl
  exact toNat_commandWords hd (i, w) hx

end Sys2Proof.Machine
end

section
/-! The words of the opcode table and back (30_encoding): each decoder of a place and the encoding of its rows are
inverse to each other. -/

namespace Sys2Proof

/-! F-CMD (R91). -/

/-- The op of a command is the remainder of its word by 4. -/
theorem encodeCommand_mod (op : Nat) (a : DevAddr) (sub : Byte) (n : Nat) :
    encodeCommand op a sub n % 4 = op % 4 := by
  unfold encodeCommand; omega

theorem address_encodeCommand {op : Nat} (ho : op < 4) (a : DevAddr) (sub : Byte) (n : Nat) :
    BitVec.ofNat 10 (encodeCommand op a sub n / 2 ^ 2) = a := by
  have ha := a.isLt
  apply BitVec.eq_of_toNat_eq
  simp only [BitVec.toNat_ofNat, encodeCommand]
  omega

theorem subAddress_encodeCommand {op : Nat} (ho : op < 4) (a : DevAddr) (sub : Byte) (n : Nat) :
    BitVec.ofNat 8 (encodeCommand op a sub n / 2 ^ 12) = sub := by
  have ha := a.isLt
  have hsub := sub.isLt
  apply BitVec.eq_of_toNat_eq
  simp only [BitVec.toNat_ofNat, encodeCommand]
  omega

theorem length_encodeCommand {op : Nat} (ho : op < 4) (a : DevAddr) (sub : Byte) (n : Nat) :
    encodeCommand op a sub n / 2 ^ 20 = n := by
  have ha := a.isLt
  have hsub := sub.isLt
  unfold encodeCommand
  omega

/-- The fields of a word of F-CMD make up the word. -/
theorem encodeCommand_fields (w : Nat) :
    encodeCommand (w % 4) (BitVec.ofNat 10 (w / 2 ^ 2)) (BitVec.ofNat 8 (w / 2 ^ 12)) (w / 2 ^ 20) = w := by
  simp only [encodeCommand, BitVec.toNat_ofNat]
  omega

/-- The command an op stands for (R92). -/
def commandOf (op : Nat) (a : DevAddr) (sub : Byte) (n : Nat) : Instr :=
  if op = 1 then .masterWrite a sub n
  else if op = 2 then .masterRead a sub n
  else if op = 3 then .registerSlave a sub n
  else .noCommand a sub n

/-- A word that fits F-CMD decodes to the command of its op, with its fields. -/
theorem decodeCommand_fits {lenW w : Nat} (h : w < 2 ^ (20 + lenW)) :
    decodeCommand lenW w = .ok (commandOf (w % 4) (BitVec.ofNat 10 (w / 2 ^ 2)) (BitVec.ofNat 8 (w / 2 ^ 12))
      (w / 2 ^ 20)) := by
  simp only [decodeCommand, h, if_true, commandOf]
  split_ifs <;> rfl

theorem decodeCommand_encodeCommand {lenW op n : Nat} (ho : op < 4) (a : DevAddr) (sub : Byte)
    (hn : n < 2 ^ lenW) : decodeCommand lenW (encodeCommand op a sub n) = .ok (commandOf op a sub n) := by
  rw [decodeCommand_fits (Laws.EncodeFits.encodeCommand_lt a sub ho hn), encodeCommand_mod,
    address_encodeCommand ho, subAddress_encodeCommand ho, length_encodeCommand ho, Nat.mod_eq_of_lt ho]

theorem encode_commandOf {op : Nat} (ho : op < 4) (a : DevAddr) (sub : Byte) (n : Nat) :
    encode (commandOf op a sub n) = encodeCommand op a sub n := by
  obtain rfl | rfl | rfl | rfl : op = 0 ∨ op = 1 ∨ op = 2 ∨ op = 3 := by omega
  all_goals rfl

/-- What F-CMD decodes to has the word it was read from. -/
theorem encode_of_decodeCommand {lenW w : Nat} {i : Instr} (h : decodeCommand lenW w = .ok i) : encode i = w := by
  by_cases hw : w < 2 ^ (20 + lenW)
  · rw [decodeCommand_fits hw] at h
    cases h
    rw [encode_commandOf (Nat.mod_lt w (by decide)), encodeCommand_fields]
  · rw [Machine.decodeCommand_tooWide (Nat.not_lt.1 hw)] at h
    cases h

/-! The places of one byte (R90). -/

/-- A byte standing in a place of one byte is read by the byte decoder of the place. -/
theorem decode_byte {lenW : Nat} {k : Slot} (hc : k ≠ .cmd) (hm : k ≠ .wmode) (b : Byte) :
    decode lenW k b.toNat = decodeByte b k := by
  have hb : b.toNat < 2 ^ 8 := b.isLt
  rw [decode, if_neg hc, if_neg hm, if_pos hb, BitVec.ofNat_toNat, BitVec.setWidth_eq]

/-- What a place of one byte decodes is read from a byte. -/
theorem byte_of_decode {lenW w : Nat} {k : Slot} {i : Instr} (hc : k ≠ .cmd) (hm : k ≠ .wmode)
    (h : decode lenW k w = .ok i) : ∃ b : Byte, b.toNat = w ∧ decodeByte b k = .ok i := by
  rw [decode, if_neg hc, if_neg hm] at h
  split at h
  next hw => exact ⟨BitVec.ofNat 8 w, by rw [BitVec.toNat_ofNat, Nat.mod_eq_of_lt hw], h⟩
  next => cases h

/-! A snapshot and its bits (R94). -/

theorem statusByte_idle (i n d q : Bool) (l : BitVec 4) : (statusByte i n d q l).getLsbD 7 = i := by
  revert i n d q l; decide

theorem statusByte_noAck (i n d q : Bool) (l : BitVec 4) : (statusByte i n d q l).getLsbD 6 = n := by
  revert i n d q l; decide

theorem statusByte_ready (i n d q : Bool) (l : BitVec 4) : (statusByte i n d q l).getLsbD 5 = d := by
  revert i n d q l; decide

theorem statusByte_req (i n d q : Bool) (l : BitVec 4) : (statusByte i n d q l).getLsbD 4 = q := by
  revert i n d q l; decide

theorem statusByte_low (i n d q : Bool) (l : BitVec 4) : (statusByte i n d q l).extractLsb' 0 4 = l := by
  revert i n d q l; decide

theorem statusByte_bits (w : Byte) :
    statusByte (w.getLsbD 7) (w.getLsbD 6) (w.getLsbD 5) (w.getLsbD 4) (w.extractLsb' 0 4) = w := by
  revert w; decide

theorem classifyReq_statusByte (i n d q : Bool) (l : BitVec 4) :
    classifyReq (statusByte i n d q l) =
      if q then .stReqProceed i n d l else if i then .stReqTerminal n d l else .stReqSpin n d l := by
  simp only [classifyReq, statusByte_idle, statusByte_noAck, statusByte_ready, statusByte_req, statusByte_low]

theorem classifyRdy_statusByte (i n d q : Bool) (l : BitVec 4) :
    classifyRdy (statusByte i n d q l) =
      if i then .stRdyAbortIdle n d q l
      else if d then (if n then .stRdyAbortNack q l else .stRdyAccept q l) else .stRdySpin n q l := by
  simp only [classifyRdy, statusByte_idle, statusByte_noAck, statusByte_ready, statusByte_req, statusByte_low]

theorem classifyIdle_statusByte (i n d q : Bool) (l : BitVec 4) :
    classifyIdle (statusByte i n d q l) = if i then .stIdleEnd n d q l else .stIdleSpin n d q l := by
  simp only [classifyIdle, statusByte_idle, statusByte_noAck, statusByte_ready, statusByte_req, statusByte_low]

/-- The class of a snapshot belongs to the mode's place and has the snapshot as its word. -/
theorem encode_classifyReq (w : Byte) : encode (classifyReq w) = w.toNat ∧ (classifyReq w).slot = .statusReq := by
  have hw := congrArg BitVec.toNat (statusByte_bits w)
  unfold classifyReq
  cases h4 : w.getLsbD 4 <;> cases h7 : w.getLsbD 7 <;> rw [h4, h7] at hw <;> exact ⟨hw, rfl⟩

theorem encode_classifyRdy (w : Byte) : encode (classifyRdy w) = w.toNat ∧ (classifyRdy w).slot = .statusRdy := by
  have hw := congrArg BitVec.toNat (statusByte_bits w)
  unfold classifyRdy
  cases h7 : w.getLsbD 7
  · cases h5 : w.getLsbD 5
    · rw [h7, h5] at hw; exact ⟨hw, rfl⟩
    · cases h6 : w.getLsbD 6 <;> rw [h7, h5, h6] at hw <;> exact ⟨hw, rfl⟩
  · rw [h7] at hw; exact ⟨hw, rfl⟩

theorem encode_classifyIdle (w : Byte) :
    encode (classifyIdle w) = w.toNat ∧ (classifyIdle w).slot = .statusIdle := by
  have hw := congrArg BitVec.toNat (statusByte_bits w)
  unfold classifyIdle
  cases h7 : w.getLsbD 7 <;> rw [h7] at hw <;> exact ⟨hw, rfl⟩

/-! The words of the CSR (R100, R103). -/

theorem decodeSlaveReset_byte (hi : BitVec 4) (lo : BitVec 2) :
    decodeSlaveReset (slaveResetByte hi lo) = .ok (.cwSlaveReset hi lo) := by
  revert hi lo; decide

theorem slaveResetByte_fields (w : Byte) (h : w &&& 0x09 = 0x01) :
    slaveResetByte (w.extractLsb' 4 4) (w.extractLsb' 1 2) = w := by
  revert w; decide

theorem decodeSlaveEnable_byte (hi lo : BitVec 3) :
    decodeSlaveEnable (slaveEnableByte hi lo) = .ok (.cwSlaveEnable hi lo) := by
  revert hi lo; decide

theorem slaveEnableByte_fields (w : Byte) (h : w &&& 0x88 = 0x80) :
    slaveEnableByte (w.extractLsb' 4 3) (w.extractLsb' 0 3) = w := by
  revert w; decide

/-- A STOP word is read by its bit CSR_STOP, the other bits being the row's (R102). -/
theorem of_map_stopFlagOf {w : Byte} {f : StopFlag → Instr} {i : Instr} (h : (stopFlagOf w).map f = .ok i) :
    ∃ p : StopFlag, w &&& 0x60 = p.mask ∧ i = f p := by
  unfold stopFlagOf at h
  split at h
  next hw => cases h; exact ⟨.bit6, hw, rfl⟩
  next =>
    split at h
    next hw => cases h; exact ⟨.bit5, hw, rfl⟩
    next => cases h

/-- A word is its two unnamed bits and the others. -/
theorem eq_or_of_and {w x y : Byte} (hx : w &&& 0x9F = x) (hy : w &&& 0x60 = y) : w = x ||| y := by
  subst hx hy
  revert w; decide

theorem encode_of_decodeMasterWord {w : Byte} {i : Instr} (h : decodeMasterWord w = .ok i) :
    encode i = w.toNat ∧ i.slot = .csrMaster := by
  unfold decodeMasterWord at h
  split_ifs at h with hreset hstartW hstartR hstopW hpivot hstopR
  · subst hreset; cases h; exact ⟨rfl, rfl⟩
  · subst hstartW; cases h; exact ⟨rfl, rfl⟩
  · subst hstartR; cases h; exact ⟨rfl, rfl⟩
  · obtain ⟨p, hp, rfl⟩ := of_map_stopFlagOf h
    rw [eq_or_of_and hstopW hp]
    cases p <;> exact ⟨rfl, rfl⟩
  · obtain ⟨p, hp, rfl⟩ := of_map_stopFlagOf h
    rw [eq_or_of_and hpivot hp]
    cases p <;> exact ⟨rfl, rfl⟩
  · obtain ⟨p, hp, rfl⟩ := of_map_stopFlagOf h
    rw [eq_or_of_and hstopR hp]
    cases p <;> exact ⟨rfl, rfl⟩

theorem encode_of_decodeSlaveReset {w : Byte} {i : Instr} (h : decodeSlaveReset w = .ok i) :
    encode i = w.toNat ∧ i.slot = .csrSlaveReset := by
  unfold decodeSlaveReset at h
  split at h <;> cases h
  exact ⟨congrArg BitVec.toNat (slaveResetByte_fields w ‹_›), rfl⟩

theorem encode_of_decodeSlaveEnable {w : Byte} {i : Instr} (h : decodeSlaveEnable w = .ok i) :
    encode i = w.toNat ∧ i.slot = .csrSlaveEnable := by
  unfold decodeSlaveEnable at h
  split at h <;> cases h
  exact ⟨congrArg BitVec.toNat (slaveEnableByte_fields w ‹_›), rfl⟩

/-! The address bytes (R96, R97). -/

theorem decodeHeader_byte (h : BitVec 2) (rw : Bool) :
    decodeHeader (headerByte h rw) = .ok (if rw then .hdr10R h else .hdr10W h) := by
  revert h rw; decide

theorem headerByte_fields (w : Byte) (h : w &&& 0xF8 = 0xF0) :
    headerByte (w.extractLsb' 1 2) (w.getLsbD 0) = w := by
  revert w; decide

theorem decodeAddress_byte (a : BitVec 7) (rw : Bool) :
    decodeAddress (addressByte a rw) = .ok (if rw then .addr7R a else .addr7W a) := by
  revert a rw; decide

theorem addressByte_fields (w : Byte) : addressByte (w.extractLsb' 1 7) (w.getLsbD 0) = w := by
  revert w; decide

theorem encode_of_decodeHeader {w : Byte} {i : Instr} (h : decodeHeader w = .ok i) :
    encode i = w.toNat ∧ i.slot = .hdr10 := by
  unfold decodeHeader at h
  split at h
  next hw =>
    have hb := congrArg BitVec.toNat (headerByte_fields w hw)
    cases h0 : w.getLsbD 0 <;> rw [h0] at h hb <;> cases h <;> exact ⟨hb, rfl⟩
  next => cases h

theorem encode_of_decodeAddress {w : Byte} {i : Instr} (h : decodeAddress w = .ok i) :
    encode i = w.toNat ∧ i.slot = .addr7 := by
  have hb := congrArg BitVec.toNat (addressByte_fields w)
  unfold decodeAddress at h
  cases h0 : w.getLsbD 0 <;> rw [h0] at h hb <;> cases h <;> exact ⟨hb, rfl⟩

theorem encode_of_decodeDummy {w : Byte} {i : Instr} (h : decodeDummy w = .ok i) :
    encode i = w.toNat ∧ i.slot = .dummy := by
  unfold decodeDummy at h
  split at h <;> cases h
  next hw => subst hw; exact ⟨rfl, rfl⟩

/-! The round trips. -/

/-- What a place of one byte decodes belongs to the place and has the byte as its word. -/
theorem encode_of_decodeByte {w : Byte} {k : Slot} {i : Instr} (h : decodeByte w k = .ok i) :
    encode i = w.toNat ∧ i.slot = k := by
  cases k with
  | cmd | wmode => cases h
  | csrMaster => exact encode_of_decodeMasterWord h
  | csrSlaveReset => exact encode_of_decodeSlaveReset h
  | csrSlaveEnable => exact encode_of_decodeSlaveEnable h
  | hdr10 => exact encode_of_decodeHeader h
  | addr7 => exact encode_of_decodeAddress h
  | subaddr | wdata => cases h; exact ⟨rfl, rfl⟩
  | dummy => exact encode_of_decodeDummy h
  | statusReq => cases h; exact encode_classifyReq w
  | statusRdy => cases h; exact encode_classifyRdy w
  | statusIdle => cases h; exact encode_classifyIdle w

theorem encode_of_decodeMode {w : Nat} {i : Instr} (h : decodeMode w = .ok i) : encode i = w ∧ i.slot = .wmode := by
  unfold decodeMode at h
  split_ifs at h <;> cases h <;> exact ⟨by simp only [encode]; omega, rfl⟩

/-- Every operand but the length of a command fits by its type. -/
theorem wellFormed_of_slot {i : Instr} (h : i.slot ≠ .cmd) (lenW : Nat) : i.WellFormed lenW = true := by
  cases i with
  | masterWrite | masterRead | registerSlave | noCommand => exact absurd rfl h
  | _ => rfl

/-- Settles O5, place by place: F-CMD by its fields, and every other place by its decoder. -/
theorem encodeOfDecode : Obligations.EncodeOfDecode := by
  intro lenW k w i h
  by_cases hc : k = .cmd
  · subst hc
    obtain ⟨hk, hwf⟩ := Machine.decodeCommand_ok h
    exact ⟨encode_of_decodeCommand h, hk, hwf⟩
  · obtain ⟨hw, hk⟩ : encode i = w ∧ i.slot = k := by
      by_cases hm : k = .wmode
      · subst hm; exact encode_of_decodeMode h
      · obtain ⟨b, rfl, hb⟩ := byte_of_decode hc hm h
        exact encode_of_decodeByte hb
    exact ⟨hw, hk, wellFormed_of_slot (hk ▸ hc) lenW⟩

/-- A row of one byte is read back when the decoder of its place reads its byte. -/
theorem decode_encode_byte {lenW : Nat} {i : Instr} {b : Byte} (hw : encode i = b.toNat) (hc : i.slot ≠ .cmd)
    (hm : i.slot ≠ .wmode) (h : decodeByte b i.slot = .ok i) : decode lenW i.slot (encode i) = .ok i := by
  rw [hw, decode_byte hc hm, h]

/-- A command is one of the four ops with its operands (R92). -/
theorem exists_commandOf {i : Instr} (h : i.slot = .cmd) : ∃ op < 4, ∃ a sub n, i = commandOf op a sub n := by
  cases i with
  | masterWrite a sub n => exact ⟨1, by decide, a, sub, n, rfl⟩
  | masterRead a sub n => exact ⟨2, by decide, a, sub, n, rfl⟩
  | registerSlave a sub n => exact ⟨3, by decide, a, sub, n, rfl⟩
  | noCommand a sub n => exact ⟨0, by decide, a, sub, n, rfl⟩
  | _ => cases h

theorem wellFormed_commandOf (lenW op : Nat) (a : DevAddr) (sub : Byte) (n : Nat) :
    (commandOf op a sub n).WellFormed lenW = decide (n < 2 ^ lenW) := by
  unfold commandOf
  split_ifs <;> rfl

/-- A command is read back from its fields. -/
theorem decodeCommand_encode {lenW : Nat} {i : Instr} (h : i.slot = .cmd) (hwf : i.WellFormed lenW = true) :
    decodeCommand lenW (encode i) = .ok i := by
  obtain ⟨op, ho, a, sub, n, rfl⟩ := exists_commandOf h
  rw [wellFormed_commandOf, decide_eq_true_eq] at hwf
  rw [encode_commandOf ho, decodeCommand_encodeCommand ho a sub hwf]

theorem decode_encode_command {lenW : Nat} {i : Instr} (h : i.slot = .cmd) (hwf : i.WellFormed lenW = true) :
    decode lenW i.slot (encode i) = .ok i := by
  rw [decode, if_pos h, decodeCommand_encode h hwf]

/-- Settles O4, row by row: the fields of a command, the number of a mode, and the byte of every other row. -/
theorem decodeOfEncode : Obligations.DecodeOfEncode := by
  intro lenW i hwf
  cases i with
  | masterWrite | masterRead | registerSlave | noCommand => exact decode_encode_command rfl hwf
  | waitReq | waitAny | waitRdy | waitIdle | cwReset | cwStartW | cwStartR | dummyByte => rfl
  | cwStopW p | cwPivot p | cwStopR p => cases p <;> rfl
  | cwSlaveReset hi lo => exact decode_encode_byte rfl nofun nofun (decodeSlaveReset_byte hi lo)
  | cwSlaveEnable hi lo => exact decode_encode_byte rfl nofun nofun (decodeSlaveEnable_byte hi lo)
  | hdr10W h => exact decode_encode_byte rfl nofun nofun (decodeHeader_byte h false)
  | hdr10R h => exact decode_encode_byte rfl nofun nofun (decodeHeader_byte h true)
  | addr7W a => exact decode_encode_byte rfl nofun nofun (decodeAddress_byte a false)
  | addr7R a => exact decode_encode_byte rfl nofun nofun (decodeAddress_byte a true)
  | subaddrByte b | wdataByte b => exact decode_encode_byte rfl nofun nofun rfl
  | stReqSpin | stReqProceed | stReqTerminal =>
    exact decode_encode_byte rfl nofun nofun (congrArg _ (classifyReq_statusByte ..))
  | stRdySpin | stRdyAccept | stRdyAbortIdle | stRdyAbortNack =>
    exact decode_encode_byte rfl nofun nofun (congrArg _ (classifyRdy_statusByte ..))
  | stIdleSpin | stIdleEnd => exact decode_encode_byte rfl nofun nofun (congrArg _ (classifyIdle_statusByte ..))

end Sys2Proof
end

section
/-! Settled: the words written out from the spec, the classes of a snapshot, and the address bytes. -/

namespace Sys2Proof

open Sys2Proof.Machine

/-- Settles O3: eleven closed decodings. -/
theorem specWordsDecode : Obligations.SpecWordsDecode := by
  unfold Obligations.SpecWordsDecode
  decide

/-! The mask tests of a snapshot, bit by bit (30_encoding R94, R112, R113). -/

theorem and_0x10_ne_zero (w : Byte) : w &&& 0x10 ≠ 0 ↔ w.getLsbD 4 = true := by
  revert w; decide

theorem and_0x80_eq_zero (w : Byte) : w &&& 0x80 = 0 ↔ w.getLsbD 7 = false := by
  revert w; decide

theorem and_0x90_eq_zero (w : Byte) : w &&& 0x90 = 0 ↔ w.getLsbD 7 = false ∧ w.getLsbD 4 = false := by
  revert w; decide

theorem and_0x90_eq_0x80 (w : Byte) : w &&& 0x90 = 0x80 ↔ w.getLsbD 7 = true ∧ w.getLsbD 4 = false := by
  revert w; decide

theorem and_0xA0_eq_zero (w : Byte) : w &&& 0xA0 = 0 ↔ w.getLsbD 7 = false ∧ w.getLsbD 5 = false := by
  revert w; decide

theorem and_0xC0_eq_zero (w : Byte) : w &&& 0xC0 = 0 ↔ w.getLsbD 7 = false ∧ w.getLsbD 6 = false := by
  revert w; decide

theorem and_0xE0_eq_0x20 (w : Byte) :
    w &&& 0xE0 = 0x20 ↔ w.getLsbD 7 = false ∧ w.getLsbD 6 = false ∧ w.getLsbD 5 = true := by
  revert w; decide

/-- The classes of WAIT_REQ and WAIT_ANY are told by DATA_REQ, then IDLE (R112). -/
theorem classifyReq_classes (w : Byte) :
    (w &&& 0x90 = 0 ↔ ∃ n d l, classifyReq w = .stReqSpin n d l)
    ∧ (w &&& 0x10 ≠ 0 ↔ ∃ i n d l, classifyReq w = .stReqProceed i n d l)
    ∧ (w &&& 0x90 = 0x80 ↔ ∃ n d l, classifyReq w = .stReqTerminal n d l) := by
  rw [and_0x90_eq_zero, and_0x10_ne_zero, and_0x90_eq_0x80]
  unfold classifyReq
  cases w.getLsbD 4 <;> cases w.getLsbD 7 <;> simp

/-- The classes of WAIT_RDY and R_CHECK are told by IDLE, DATA_READY, then NO_ACK (R113). -/
theorem classifyRdy_classes (w : Byte) :
    (w &&& 0xA0 = 0 ↔ ∃ n q l, classifyRdy w = .stRdySpin n q l)
    ∧ (w &&& 0xE0 = 0x20 ↔ ∃ q l, classifyRdy w = .stRdyAccept q l)
    ∧ ((w &&& 0xA0 ≠ 0 ∧ w &&& 0xC0 ≠ 0) ↔
        (∃ n d q l, classifyRdy w = .stRdyAbortIdle n d q l)
          ∨ ∃ q l, classifyRdy w = .stRdyAbortNack q l) := by
  rw [ne_eq, ne_eq, and_0xA0_eq_zero, and_0xE0_eq_0x20, and_0xC0_eq_zero]
  unfold classifyRdy
  cases w.getLsbD 7
  · cases w.getLsbD 5 <;> cases w.getLsbD 6 <;> simp
  · simp

/-- The classes of WAIT_IDLE are told by IDLE (40 R138). -/
theorem classifyIdle_classes (w : Byte) :
    (w &&& 0x80 = 0 ↔ ∃ n d q l, classifyIdle w = .stIdleSpin n d q l)
    ∧ (w &&& 0x80 ≠ 0 ↔ ∃ n d q l, classifyIdle w = .stIdleEnd n d q l) := by
  rw [ne_eq, and_0x80_eq_zero]
  unfold classifyIdle
  cases w.getLsbD 7 <;> simp

/-- Settles O6, mode by mode. -/
theorem snapshotClasses : Obligations.SnapshotClasses := by
  intro w
  obtain ⟨reqSpin, reqProceed, reqTerminal⟩ := classifyReq_classes w
  obtain ⟨rdySpin, rdyAccept, rdyAbort⟩ := classifyRdy_classes w
  obtain ⟨idleSpin, idleEnd⟩ := classifyIdle_classes w
  exact ⟨reqSpin, reqProceed, reqTerminal, rdySpin, rdyAccept, rdyAbort, idleSpin, idleEnd⟩

/-! The address bytes: what 30_encoding R105 to R108 compute is the byte of the fields. -/

theorem addrHigh_toNat (a : DevAddr) : (addrHigh a).toNat = a.toNat / 256 := by
  have ha := a.isLt
  simp only [addrHigh, BitVec.extractLsb'_toNat, Nat.shiftRight_eq_div_pow]
  omega

theorem addrLow_toNat (a : DevAddr) : (addrLow a).toNat = a.toNat % 128 := by
  simp [addrLow, BitVec.extractLsb'_toNat]

theorem headerByte_toNat (h : BitVec 2) (rw : Bool) : (headerByte h rw).toNat = 0xF0 + 2 * h.toNat + rw.toNat := by
  revert h rw; decide

theorem headerByte_eq_or (h : BitVec 2) : headerByte h false = 0xF0 ||| (h.setWidth 8 <<< 1) := by
  revert h; decide

theorem headerByte_or_one (h : BitVec 2) : headerByte h false ||| 0x01 = headerByte h true := by
  revert h; decide

theorem headerByte_read_mem (h : BitVec 2) : headerByte h true ∈ [(0xF1 : Byte), 0xF3, 0xF5, 0xF7] := by
  revert h; decide

theorem addressByte_toNat (a : BitVec 7) (rw : Bool) : (addressByte a rw).toNat = 2 * a.toNat + rw.toNat := by
  revert a rw; decide

theorem addressByte_eq_shift (a : BitVec 7) : addressByte a false = a.setWidth 8 <<< 1 := by
  revert a; decide

theorem addressByte_or_one (a : BitVec 7) : addressByte a false ||| 0x01 = addressByte a true := by
  revert a; decide

theorem hdrW_eq (a : DevAddr) : hdrW a = headerByte (addrHigh a) false := by
  unfold hdrW
  generalize addrHigh a = h
  revert h; decide

theorem hdrR_eq (a : DevAddr) : hdrR a = headerByte (addrHigh a) true := by
  rw [hdrR, hdrW_eq, headerByte_or_one]

theorem addrW_eq (a : DevAddr) : addrW a = addressByte (addrLow a) false := by
  unfold addrW
  generalize addrLow a = l
  revert l; decide

theorem addrR_eq (a : DevAddr) : addrR a = addressByte (addrLow a) true := by
  rw [addrR, addrW_eq, addressByte_or_one]

/-- Settles O7: each function is a byte of the fields, whose value is a closed form of them. -/
theorem addressByteFunctions : Obligations.AddressByteFunctions := by
  intro a
  refine ⟨?hdrW, ?_, hdrW_eq a, rfl, ?_, ?hdrR, hdrR_eq a, ?addrW, addrW_eq a, rfl, ?addrR, addrR_eq a⟩
  case hdrW => rw [hdrW_eq, headerByte_toNat, addrHigh_toNat]; rfl
  case hdrR => rw [hdrR_eq, headerByte_toNat, addrHigh_toNat, Bool.toNat_true]; omega
  case addrW => rw [addrW_eq, addressByte_toNat, addrLow_toNat]; rfl
  case addrR => rw [addrR_eq, addressByte_toNat, addrLow_toNat]; rfl
  · rw [hdrW_eq, headerByte_eq_or]
  · rw [hdrR_eq]; exact headerByte_read_mem _

end Sys2Proof
end

section
/-! The rows that are classes of a snapshot, and the words and bytes written (30_encoding R103 to R113). -/

namespace Sys2Proof.Machine

/-- Settles O22: in the test step both are the test of the poll. -/
theorem classAgreesWithMode : Obligations.ClassAgreesWithMode := by
  intro s m hm hp
  rw [exec_statusClass hm, exec_mode, State.pollStep, hp]

/-- Settles O30: outside R_CHECK each of the three rows polls again. -/
theorem spinClasses : Obligations.SpinClasses :=
  fun _ _ _ _ _ => ⟨rfl, rfl, fun hq => if_neg hq⟩

/-- The only state that makes WAIT_ANY is W_FWAIT (42 R177). -/
theorem seq_of_waitMode_any {c : Config} {q : Seq} (h : waitMode c q = some .any) : q = .wFwait := by
  cases q with
  | wFwait => rfl
  | _ => cases h

/-- Settles O31: a classified wait writes R, and W_FWAIT, the one wait of WAIT_ANY, goes on to W_STOP. -/
theorem requestClasses : Obligations.RequestClasses := by
  intro s i n d l
  refine ⟨fun hm => ⟨if_pos hm, if_pos hm⟩, fun hm => ?_⟩
  have hend : s.endWait = s.goto .wStop := by rw [State.endWait, seq_of_waitMode_any hm]; rfl
  have hne : waitMode s.cfg s.seq ≠ some .req := by rw [hm]; nofun
  exact ⟨(if_neg hne).trans (congrArg _ hend), (if_neg hne).trans (congrArg _ hend)⟩

/-- Settles O32: in R_POLL the three classes end the wait, in R_CHECK they take the byte or abort with T. -/
theorem readyAndIdleClasses : Obligations.ReadyAndIdleClasses := by
  intro s n d q l
  refine ⟨fun hq => ?_, fun hq => ⟨if_pos hq, if_pos hq, if_pos hq⟩, rfl⟩
  have hend : s.endWait = s.goto (afterWait s.cfg .rPoll) := by rw [State.endWait, hq]
  have hne : s.seq ≠ .rCheck := by rw [hq]; nofun
  rw [← hend]
  exact ⟨if_neg hne, if_neg hne, if_neg hne⟩

/-- The bits R103 fixes in the two slave words. -/
theorem slaveResetByte_and (hi : BitVec 4) (lo : BitVec 2) : slaveResetByte hi lo &&& 0x09 = 0x01 := by
  revert hi lo; decide

theorem slaveEnableByte_and (hi lo : BitVec 3) : slaveEnableByte hi lo &&& 0x88 = 0x80 := by
  revert hi lo; decide

/-- Settles O36: the word is the byte of the row, which is what the row writes. -/
theorem slaveWordsWritten : Obligations.SlaveWordsWritten := by
  intro s hi lo hi' lo' w w' hw hw'
  obtain rfl : w = slaveResetByte hi lo := BitVec.eq_of_toNat_eq hw
  obtain rfl : w' = slaveEnableByte hi' lo' := BitVec.eq_of_toNat_eq hw'
  exact ⟨rfl, rfl, slaveResetByte_and hi lo, slaveEnableByte_and hi' lo'⟩

theorem headerByte_read_eq_or (h : BitVec 2) : headerByte h true = 0xF1 ||| (h.setWidth 8 <<< 1) := by
  revert h; decide

theorem addressByte_read_eq_or (a : BitVec 7) : addressByte a true = (a.setWidth 8 <<< 1) ||| 0x01 := by
  rw [← addressByte_eq_shift, addressByte_or_one]

/-- Settles O37: each row writes its byte, whose closed form is the one of the statement. -/
theorem dataBytesWritten : Obligations.DataBytesWritten := by
  intro s i b h a x hx
  rw [← headerByte_eq_or, ← headerByte_read_eq_or, ← addressByte_read_eq_or, ← addressByte_eq_shift] at hx
  simp only [List.mem_cons, Prod.mk.injEq, List.not_mem_nil, or_false] at hx
  obtain ⟨rfl, rfl⟩ | ⟨rfl, rfl⟩ | ⟨rfl, rfl⟩ | ⟨rfl, rfl⟩ | ⟨rfl, rfl⟩ | ⟨rfl, rfl⟩ | ⟨rfl, rfl⟩ := hx
  all_goals exact ⟨rfl, rfl⟩

end Sys2Proof.Machine
end

section
/-! Placing an instruction (log 3): the state with a row placed issues that row. -/

namespace Sys2Proof.Machine

/-- The slave words the ENGINE can write: not both of the two unnamed bits are set (30_encoding R116). -/
def Placeable : Instr → Bool
  | .cwSlaveReset hi _ => !(hi.getLsbD 2 && hi.getLsbD 1)
  | .cwSlaveEnable hi _ => !(hi.getLsbD 2 && hi.getLsbD 1)
  | _ => true

theorem namedHigh_stopOfBit6 {hi : BitVec 4} (h : (!(hi.getLsbD 2 && hi.getLsbD 1)) = true) :
    namedHigh (stopOfBit6 (hi.getLsbD 2)) hi = hi := by
  revert hi; decide

theorem namedMid_stopOfBit6 {hi : BitVec 3} (h : (!(hi.getLsbD 2 && hi.getLsbD 1)) = true) :
    namedMid (stopOfBit6 (hi.getLsbD 2)) hi = hi := by
  revert hi; decide

theorem addrHigh_ten_append (h : BitVec 2) : addrHigh (h ++ 0x80#8) = h ∧ ten (h ++ 0x80#8) = true := by
  revert h; decide

theorem addrLow_ten_append (a : BitVec 7) : addrLow (0#3 ++ a) = a ∧ ten (0#3 ++ a) = false := by
  revert a; decide

/-- The word of a class, put into T, is of that class. -/
theorem statusClass_encode (m : WMode) {i : Instr} (h : i.slot = m.statusSlot) :
    m.statusClass (BitVec.ofNat 8 (encode i)) = i := by
  have hc : i.slot ≠ .cmd := by rw [h]; cases m <;> nofun
  have hm : i.slot ≠ .wmode := by rw [h]; cases m <;> nofun
  have hd := decodeOfEncode defaultLenW i (wellFormed_of_slot hc defaultLenW)
  obtain ⟨b, hb, -⟩ := byte_of_decode hc hm hd
  rw [← hb, h, decode_statusSlot] at hd
  rw [← hb, BitVec.ofNat_toNat, BitVec.setWidth_eq]
  exact Except.ok.inj hd

/-- R_READDR writes the address byte of the address's range (43 R194). -/
theorem issue_readdr {s : State} (hq : s.seq = .rReaddr) :
    issue s = some (if ten s.addr then .hdr10R (addrHigh s.addr) else .addr7R (addrLow s.addr)) := by
  simp only [issue, hq]

/-- A row that is no command is issued by the state it is placed in. -/
theorem issue_place (s : State) {i : Instr} (hc : i.slot ≠ .cmd) (hp : Placeable i = true) :
    issue (s.place i) = some i ∧ (s.place i).seq ≠ .sIdle := by
  cases i with
  | masterWrite | masterRead | registerSlave | noCommand => exact absurd rfl hc
  | waitReq | waitAny | waitRdy | waitIdle | cwReset | cwStartW | cwStartR | subaddrByte | wdataByte | dummyByte
  | cwStopW | cwPivot | cwStopR => exact ⟨rfl, nofun⟩
  | cwSlaveReset hi lo =>
    exact ⟨congrArg (fun x => some (Instr.cwSlaveReset x lo)) (namedHigh_stopOfBit6 hp), nofun⟩
  | cwSlaveEnable hi lo =>
    exact ⟨congrArg (fun x => some (Instr.cwSlaveEnable x lo)) (namedMid_stopOfBit6 hp), nofun⟩
  | hdr10W h => exact ⟨congrArg (fun x => some (Instr.hdr10W x)) (addrHigh_ten_append h).1, nofun⟩
  | addr7W a => exact ⟨congrArg (fun x => some (Instr.addr7W x)) (addrLow_ten_append a).1, nofun⟩
  | hdr10R h =>
    obtain ⟨hh, ht⟩ := addrHigh_ten_append h
    exact ⟨(issue_readdr rfl).trans (congrArg some ((if_pos ht).trans (congrArg _ hh))), nofun⟩
  | addr7R a =>
    obtain ⟨ha, ht⟩ := addrLow_ten_append a
    have hn := Bool.eq_false_iff.1 ht
    exact ⟨(issue_readdr rfl).trans (congrArg some ((if_neg hn).trans (congrArg _ ha))), nofun⟩
  | stReqSpin | stReqProceed | stReqTerminal => exact ⟨congrArg some (statusClass_encode .req rfl), nofun⟩
  | stRdySpin | stRdyAccept | stRdyAbortIdle | stRdyAbortNack =>
    exact ⟨congrArg some (statusClass_encode .rdy rfl), nofun⟩
  | stIdleSpin | stIdleEnd => exact ⟨congrArg some (statusClass_encode .idle rfl), nofun⟩

/-- A command is issued by the idle ENGINE it is presented to. -/
theorem issued_place_command (s : State) {i : Instr} (hc : i.slot = .cmd) (hwf : i.WellFormed defaultLenW = true) :
    ∃ u, issued (s.place i) = some (i, u) := by
  have hd := decodeCommand_encode hc hwf
  cases i with
  | masterWrite | masterRead | registerSlave | noCommand => exact ⟨_, issued_idle rfl rfl rfl hd⟩
  | _ => cases hc

theorem place_setup (s : State) (i : Instr) : (s.place i).setup = false := by
  cases i <;> rfl

/-- Without a place, a slave word has not both unnamed bits set (log 2, 30_encoding R116). -/
theorem and_0x60_of_slotOfWord {nbits w : Nat}
    (h : slotOfWord nbits w = .csrSlaveReset ∨ slotOfWord nbits w = .csrSlaveEnable) :
    BitVec.ofNat 8 w &&& 0x60 ≠ 0x60 := by
  intro hw
  unfold slotOfWord slotOfByte at h
  simp only [hw, if_true] at h
  split_ifs at h <;> simp at h

theorem placeable_slaveReset (hi : BitVec 4) (lo : BitVec 2) (h : slaveResetByte hi lo &&& 0x60 ≠ 0x60) :
    Placeable (.cwSlaveReset hi lo) = true := by
  revert hi lo; decide

theorem placeable_slaveEnable (hi lo : BitVec 3) (h : slaveEnableByte hi lo &&& 0x60 ≠ 0x60) :
    Placeable (.cwSlaveEnable hi lo) = true := by
  revert hi lo; decide

/-- A row read without a place is well-formed at the default of LEN_W, and can be placed. -/
theorem of_decodeTableWord {nbits w : Nat} {i : Instr} (h : decodeTableWord nbits w = some i) :
    i.WellFormed defaultLenW = true ∧ Placeable i = true := by
  obtain ⟨hw, hk, hwf⟩ : encode i = w ∧ i.slot = slotOfWord nbits w ∧ i.WellFormed defaultLenW = true := by
    unfold decodeTableWord at h
    split at h
    next =>
      cases hd : decode defaultLenW (slotOfWord nbits w) w with
      | error e => rw [hd] at h; cases h
      | ok j => rw [hd] at h; cases h; exact encodeOfDecode _ _ _ _ hd
    next => cases h
  refine ⟨hwf, ?_⟩
  cases i with
  | cwSlaveReset hi lo =>
    have hb := and_0x60_of_slotOfWord (.inl hk.symm)
    rw [← hw, encode, BitVec.ofNat_toNat, BitVec.setWidth_eq] at hb
    exact placeable_slaveReset hi lo hb
  | cwSlaveEnable hi lo =>
    have hb := and_0x60_of_slotOfWord (.inr hk.symm)
    rw [← hw, encode, BitVec.ofNat_toNat, BitVec.setWidth_eq] at hb
    exact placeable_slaveEnable hi lo hb
  | _ => rfl

/-- Settles O9: a row read without a place can be placed, and is issued where it is placed. -/
theorem placedWordIsIssued : Obligations.PlacedWordIsIssued := by
  intro s nbits w i h
  obtain ⟨hwf, hp⟩ := of_decodeTableWord h
  have hs : s.withFetchWord nbits w = s.place i := by rw [State.withFetchWord, State.placeWord, h]
  rw [hs]
  refine ⟨place_setup s i, ?_⟩
  by_cases hc : i.slot = .cmd
  · exact issued_place_command s hc hwf
  · obtain ⟨hi, hq⟩ := issue_place s hc hp
    exact ⟨_, by rw [issued_busy hq, hi]; rfl⟩

end Sys2Proof.Machine
end

section
/-! The word a step writes to the CSR (30_encoding R100, R101, R103, R116): a row writes its own, a state of a master
transaction that of its row, and SL_PASS writes no unnamed bit but CSR_STOP. -/

namespace Sys2Proof.Machine

open Sys2Proof.Safety

/-- The word a row writes to the CSR, if it is a command word. -/
def csrWordOf (c : Config) : Instr → Option Byte
  | .cwReset => some c.cwReset
  | .cwStartW => some c.cwStartW
  | .cwStopW _ => some c.cwStopW
  | .cwPivot _ => some c.cwPivot
  | .cwStartR => some c.cwStartR
  | .cwStopR _ => some c.cwStopR
  | .cwSlaveReset hi lo => some (slaveResetByte hi lo)
  | .cwSlaveEnable hi lo => some (slaveEnableByte hi lo)
  | _ => none

/-- The states of a master transaction that write the CSR, each with its word (41 R151 to R158, 42 R178, 43 R196 to
R203). -/
def masterWords (c : Config) : List (Seq × Byte) :=
  [(.tReset, c.cwReset), (.ap10Start, c.cwStartW), (.ap7Start, c.cwStartW), (.wStop, c.cwStopW),
    (.rPivot, c.cwPivot), (.rStart, c.cwStartR), (.rLstop, c.cwStopR)]

/-- A step that makes no action writes no word. -/
theorem ne_cons_of_trace {s t : State} (h : t.trace = s.trace) {a : Action} : t.trace ≠ a :: s.trace :=
  fun ha => List.cons_ne_self a s.trace (ha.symm.trans h)

/-- A poll writes no register (40 R131). -/
theorem pollStep_ne_csrWrite (s : State) (m : WMode) (w : Byte) :
    (s.pollStep m).trace ≠ .csrWrite w :: s.trace := by
  obtain ⟨-, h⟩ | ⟨-, h⟩ | ⟨-, h⟩ := s.pollStep_cases m <;> rw [h]
  · nofun
  · nofun
  · exact ne_cons_of_trace (s.pollTest_trace m)

/-- A row that writes the CSR writes its command word (20_memory R67). -/
theorem exec_csrWrite {i : Instr} {s t : State} {w : Byte} (h : exec i s = .next t)
    (ht : t.trace = .csrWrite w :: s.trace) : csrWordOf s.cfg i = some w := by
  cases i with
  | cwReset | cwStartW | cwStopW | cwPivot | cwStartR | cwStopR | cwSlaveReset | cwSlaveEnable =>
    cases h; cases ht; rfl
  | hdr10W | hdr10R | addr7W | addr7R | subaddrByte | wdataByte | dummyByte => cases h; cases ht
  | waitReq | waitAny | waitRdy | waitIdle => cases h; exact absurd ht (pollStep_ne_csrWrite s _ w)
  | masterWrite | masterRead | registerSlave | noCommand =>
    exact absurd ht (ne_cons_of_trace (exec_command_trace rfl h))
  | stReqSpin | stIdleSpin | stIdleEnd => cases h; exact absurd ht (ne_cons_of_trace rfl)
  | stRdySpin => exact absurd ht (ne_cons_of_trace (trace_of_ite_next h s.checkSnapshot_trace rfl))
  | stReqProceed | stReqTerminal | stRdyAccept | stRdyAbortIdle | stRdyAbortNack =>
    exact absurd ht (ne_cons_of_trace (trace_of_ite_next h rfl rfl))

/-- Of the steps without a row only the conveyance of the response address writes the CSR (44 R231). -/
theorem stepUnissued_csrWrite {s t : State} {w : Byte} (h : stepUnissued s = .next t)
    (ht : t.trace = .csrWrite w :: s.trace) : s.seq = .slPass ∧ ∃ x, w = namedBits s.cfg.stop x := by
  unfold stepUnissued at h
  cases hq : s.seq with
  | sIdle => rw [hq] at h; exact absurd ht (ne_cons_of_trace (stepIdle_trace h))
  | wLoad => rw [hq] at h; cases (stepLoad_trace h).symm.trans ht
  | rStore => rw [hq] at h; cases (stepStore_trace h).symm.trans ht
  | tIrqOff | rFetch | tOk | tAbort => rw [hq] at h; cases h; cases ht
  | slPass =>
    refine ⟨rfl, ?_⟩
    rw [hq] at h
    simp only [stepSlave] at h
    split at h
    next => cases h; exact absurd ht (ne_cons_of_trace s.nextSlave_trace)
    next =>
      cases h
      obtain ⟨x, -, hw⟩ | ⟨b, -, hw⟩ := s.convey_cases _ <;> rw [hw] at ht <;> cases ht
      exact ⟨x, rfl⟩
    next => cases (stepAttach_trace h).symm.trans ht
    next => cases h; exact absurd ht (ne_cons_of_trace rfl)
    next => cases h; exact absurd ht (ne_cons_of_trace rfl)
  | _ => rw [hq] at h; cases h; exact absurd ht (ne_cons_of_trace rfl)

/-- What a state that does not wait writes to the CSR by its row: the word of masterWords, or a slave word less the
bit R116 forbids. -/
theorem csrWordOf_issue {s : State} {i : Instr} {w : Byte} (hn : waitMode s.cfg s.seq = none)
    (hi : issue s = some i) (hw : csrWordOf s.cfg i = some w) :
    (s.seq, w) ∈ masterWords s.cfg
      ∨ s.seq = .slPass ∧ ((∃ hi lo, w = slaveResetByte (namedHigh s.cfg.stop hi) lo)
        ∨ ∃ hi lo, w = slaveEnableByte (namedMid s.cfg.stop hi) lo) := by
  unfold issue at hi
  cases hq : s.seq with
  | tReset | ap10Start | ap7Start | wStop | rPivot | rStart =>
    rw [hq] at hi; cases hi; cases hw
    exact .inl (by simp [masterWords])
  | rLstop =>
    rw [hq] at hi
    simp only at hi
    split at hi <;> cases hi
    cases hw
    exact .inl (by simp [masterWords])
  | slPass =>
    rw [hq] at hi
    simp only at hi
    split at hi <;> cases hi <;> cases hw
    · exact .inr ⟨rfl, .inl ⟨_, _, rfl⟩⟩
    · exact .inr ⟨rfl, .inr ⟨_, _, rfl⟩⟩
  | rCheck =>
    rw [hq] at hi; cases hi
    obtain ⟨-, _, _, _, h⟩ | ⟨-, -, _, _, h⟩ | ⟨-, -, ⟨_, _, _, _, h⟩ | ⟨_, _, h⟩⟩ := classifyRdy_cases s.t <;>
      rw [h] at hw <;> cases hw
  | rReaddr => rw [hq] at hi; cases hi; split at hw <;> cases hw
  | ap10Wait | wWait | wFwait | wIdle | rWait1 | rWait2 | rPidle | rWait3 | rPoll | rIdle => rw [hq] at hn; cases hn
  | ap10Hdr | ap10Low | ap7Addr | wByte | rSub | rDummy => rw [hq] at hi; cases hi; cases hw
  | sIdle | tIrqOff | apSel | wInit | wTest | wLoad | wInc | rInit | rTest | rFetch | rStore | rInc | tOk | tAbort =>
    rw [hq] at hi; cases hi

/-- The word a step writes to the CSR is that of a state of a master transaction, or has no unnamed bit but CSR_STOP
and is written in SL_PASS. -/
theorem step_csrWrite {s t : State} {w : Byte} (h : step s = .next t) (ht : t.trace = .csrWrite w :: s.trace) :
    (s.seq, w) ∈ masterWords s.cfg
      ∨ s.seq = .slPass ∧ ((∃ hi lo, w = slaveResetByte (namedHigh s.cfg.stop hi) lo)
        ∨ (∃ hi lo, w = slaveEnableByte (namedMid s.cfg.stop hi) lo) ∨ ∃ x, w = namedBits s.cfg.stop x) := by
  cases hs : s.setup
  · by_cases hq : s.seq = .sIdle
    · obtain ⟨-, rfl⟩ | ⟨c, rest, -, ⟨-, rfl⟩ | ⟨-, i, hi, hx⟩⟩ := step_idle_next hs hq h
      · exact absurd ht (ne_cons_of_trace rfl)
      · exact absurd ht (ne_cons_of_trace rfl)
      · exact absurd ht (ne_cons_of_trace (exec_command_trace (s := s.present c rest) (decodeCommand_ok hi).1 hx))
    · cases hm : waitMode s.cfg s.seq with
      | some m =>
        rw [step_wait hs hm] at h
        cases h
        exact absurd ht (pollStep_ne_csrWrite s m w)
      | none =>
        cases hi : issue s with
        | some i =>
          rw [step_issue hs hq hi] at h
          obtain hw | ⟨hq, hw | hw⟩ := csrWordOf_issue hm hi (exec_csrWrite h ht)
          · exact .inl hw
          · exact .inr ⟨hq, .inl hw⟩
          · exact .inr ⟨hq, .inr (.inl hw)⟩
        | none =>
          rw [step_unissued hs (by rw [issued_busy hq, hi]; rfl)] at h
          obtain ⟨hq, hw⟩ := stepUnissued_csrWrite h ht
          exact .inr ⟨hq, .inr (.inr hw)⟩
  · rw [step_setup hs] at h
    cases (stepSetup_trace h).symm.trans ht

/-! The bits of these words (R101, R116). -/

/-- The bit without a name that is not CSR_STOP is clear. -/
def UnnamedClear (p : StopFlag) (w : Byte) : Prop := w &&& 0x60 &&& ~~~p.mask = 0

theorem unnamedClear_namedBits (p : StopFlag) (x : Byte) : UnnamedClear p (namedBits p x) := by
  unfold UnnamedClear
  cases p <;> (revert x; decide)

theorem unnamedClear_slaveReset (p : StopFlag) (hi : BitVec 4) (lo : BitVec 2) :
    UnnamedClear p (slaveResetByte (namedHigh p hi) lo) := by
  unfold UnnamedClear
  cases p <;> (revert hi lo; decide)

theorem unnamedClear_slaveEnable (p : StopFlag) (hi lo : BitVec 3) :
    UnnamedClear p (slaveEnableByte (namedMid p hi) lo) := by
  unfold UnnamedClear
  cases p <;> (revert hi lo; decide)

/-- At the defaults the words of a master transaction have MASTER set and IRQ_ENABLE clear, and the other flags in the
states R101 names. -/
theorem masterWords_bits {c : Config} (h : defaultWords c = true) :
    ∀ x ∈ masterWords c, UnnamedClear c.stop x.2 ∧ x.2 &&& 0x88 = 0x08
      ∧ (x.2 &&& 0x01 ≠ 0 ↔ x.1 = .tReset)
      ∧ (x.2 &&& 0x04 ≠ 0 ↔ x.1 ∈ [Seq.rPivot, .rStart, .rLstop])
      ∧ (x.2 &&& c.stop.mask ≠ 0 ↔ x.1 ∈ [Seq.wStop, .rPivot, .rLstop]) := by
  obtain ⟨hreset, hstartW, hstopW, hpivot, hstartR, hstopR⟩ := (defaultWords_iff c).1 h
  simp only [masterWords, hreset, hstartW, hstopW, hpivot, hstartR, hstopR, UnnamedClear]
  cases c.stop <;> decide

/-- Settles O35, by the words a step can write and their bits. -/
theorem commandWordComposition : Obligations.CommandWordComposition := by
  intro s t w hd h ht
  obtain hw | ⟨hq, hw⟩ := step_csrWrite h ht
  · obtain ⟨hclear, hbits⟩ := masterWords_bits hd _ hw
    exact ⟨hclear, fun _ => hbits⟩
  · refine ⟨?_, fun hn => absurd hq hn⟩
    obtain ⟨hi, lo, rfl⟩ | ⟨hi, lo, rfl⟩ | ⟨x, rfl⟩ := hw
    · exact unnamedClear_slaveReset _ hi lo
    · exact unnamedClear_slaveEnable _ hi lo
    · exact unnamedClear_namedBits _ x

end Sys2Proof.Machine
end

section
/-! Two states that differ in the low nibble of T only (30_encoding R117): a step takes them to states that are equal
but for T, R and RET, since every test of T is a mask of its high nibble. -/

namespace Sys2Proof.Machine

/-- The state with another snapshot in T. -/
def State.setT (s : State) (x : Byte) : State := { s with t := x }

@[simp] theorem State.setT_seq (s : State) (x : Byte) : (s.setT x).seq = s.seq := rfl
@[simp] theorem State.setT_pseq (s : State) (x : Byte) : (s.setT x).pseq = s.pseq := rfl
@[simp] theorem State.setT_calls (s : State) (x : Byte) : (s.setT x).calls = s.calls := rfl
@[simp] theorem State.setT_slActions (s : State) (x : Byte) : (s.setT x).slActions = s.slActions := rfl
@[simp] theorem State.setT_t (s : State) (x : Byte) : (s.setT x).t = x := rfl

/-- The states are equal but for T, R and RET. -/
def SamePath (u v : State) : Prop := v = { u with t := v.t, r := v.r, ret := v.ret }

theorem SamePath.ite {c : Prop} [Decidable c] {a b a' b' : State} (ha : SamePath a a') (hb : SamePath b b') :
    SamePath (if c then a else b) (if c then a' else b') := by
  split <;> assumption

/-- Where r goes on, r' goes on along the same path. -/
def Follows (r r' : Result) : Prop := ∀ u, r = .next u → ∃ v, r' = .next v ∧ SamePath u v

theorem Follows.of_next {u v : State} (h : SamePath u v) : Follows (.next u) (.next v) := by
  intro _ hu; cases hu; exact ⟨v, rfl, h⟩

/-- A rule that does not test T takes the same branch. -/
theorem Follows.ite {c : Prop} [Decidable c] {a b a' b' : Result} (ha : Follows a a') (hb : Follows b b') :
    Follows (if c then a else b) (if c then a' else b') := by
  split <;> assumption

theorem Follows.of_refused {x : Refusal} (r : Result) : Follows (.refused x) r := fun _ h => by cases h

theorem Follows.of_fault {x : Fault} (r : Result) : Follows (.fault x) r := fun _ h => by cases h

/-! The tests of T. -/

theorem WMode.ends_and (m : WMode) (x : Byte) : m.ends (x &&& 0xF0) = m.ends x := by
  cases m <;> (revert x; decide)

theorem checkFails_and (x : Byte) : checkFails (x &&& 0xF0) = checkFails x := by
  revert x; decide

/-- Where a classified wait ends, whether its result is 0 does not depend on the low nibble (40 R139). -/
theorem classify_eq_zero_and (x : Byte) (h : WMode.req.ends x = true) :
    classify x = 0 ↔ classify (x &&& 0xF0) = 0 := by
  revert x; decide

section lowNibble
variable {s : State} {x : Byte} (hx : x &&& 0xF0 = s.t &&& 0xF0)

/-! The operations. -/

theorem nextSlave_samePath (s : State) (x : Byte) : SamePath s.nextSlave (s.setT x).nextSlave := by
  unfold State.nextSlave
  rw [State.setT_slActions]
  split <;> rfl

include hx

theorem ends_congr (m : WMode) : m.ends x = m.ends s.t := by
  rw [← m.ends_and x, hx, m.ends_and]

theorem endClassified_samePath (he : WMode.req.ends s.t = true) :
    SamePath s.endClassified (s.setT x).endClassified := by
  have hz : classify x = 0 ↔ classify s.t = 0 := by
    rw [classify_eq_zero_and x ((ends_congr hx .req).trans he), hx, ← classify_eq_zero_and s.t he]
  unfold State.endClassified
  simp only [ne_eq, State.setT_t, hz]
  split <;> rfl

theorem pollTest_samePath (m : WMode) : SamePath (s.pollTest m) ((s.setT x).pollTest m) := by
  unfold State.pollTest
  rw [State.setT_t, ends_congr hx]
  split
  next he =>
    split
    next hm => subst hm; exact endClassified_samePath hx he
    next => rfl
  next => rfl

theorem pollStep_samePath (m : WMode) : SamePath (s.pollStep m) ((s.setT x).pollStep m) := by
  unfold State.pollStep
  rw [State.setT_pseq]
  cases s.pseq with
  | pRead | pDly => rfl
  | pTest => exact pollTest_samePath hx m

theorem checkSnapshot_samePath : SamePath s.checkSnapshot (s.setT x).checkSnapshot := by
  unfold State.checkSnapshot
  have hc : checkFails x = checkFails s.t := by rw [← checkFails_and x, hx, checkFails_and]
  rw [State.setT_t, hc]
  split <;> rfl

/-! The rows, and the steps without a row. -/

theorem exec_follows (i : Instr) : Follows (exec i s) (exec i (s.setT x)) := by
  cases i with
  | masterWrite | masterRead => exact .ite (.of_next rfl) (.ite (.of_refused _) (.of_next rfl))
  | registerSlave => exact .ite (.of_next rfl) (.ite (.of_next rfl) (.of_refused _))
  | waitReq | waitAny | waitRdy | waitIdle => exact .of_next (pollStep_samePath hx _)
  | stRdySpin => exact .ite (.of_next (checkSnapshot_samePath hx)) (.of_next rfl)
  | stReqProceed | stReqTerminal | stRdyAccept | stRdyAbortIdle | stRdyAbortNack =>
    exact .ite (.of_next rfl) (.of_next rfl)
  | _ => exact .of_next rfl

end lowNibble

theorem stepSetup_follows (s : State) (x : Byte) : Follows (stepSetup s) (stepSetup (s.setT x)) :=
  .of_next (.ite (nextSlave_samePath { s.log (.delay s.cfg.tSetup) with setup := false } x) rfl)

theorem stepIdle_follows (s : State) (x : Byte) : Follows (stepIdle s) (stepIdle (s.setT x)) := by
  unfold stepIdle
  rw [State.setT_calls]
  split
  next => exact .of_next rfl
  next => exact .ite (.of_next rfl) (.of_refused _)

theorem stepSlave_follows (s : State) (x : Byte) : Follows (stepSlave s) (stepSlave (s.setT x)) := by
  unfold stepSlave
  rw [State.setT_slActions]
  split
  next => exact .of_next (nextSlave_samePath s x)
  next w _ _ => cases w <;> exact .of_next rfl
  next => exact .of_next (nextSlave_samePath _ x)
  next => exact .of_next rfl
  next => exact .of_next rfl

theorem stepUnissued_follows (s : State) (x : Byte) :
    Follows (stepUnissued s) (stepUnissued (s.setT x)) := by
  unfold stepUnissued
  rw [State.setT_seq]
  cases s.seq with
  | sIdle => exact stepIdle_follows s x
  | wLoad | rStore => exact .ite (.of_next rfl) (.of_fault _)
  | slPass => exact stepSlave_follows s x
  | _ => exact .of_next rfl

/-- Outside the waits and R_CHECK the row issued does not depend on T. -/
theorem issue_setT {s : State} (hn : waitMode s.cfg s.seq = none) (hc : s.seq ≠ .rCheck) (x : Byte) :
    issue (s.setT x) = issue s := by
  unfold issue
  rw [State.setT_seq]
  cases hq : s.seq with
  | rCheck => exact absurd hq hc
  | ap10Wait | wWait | wFwait | wIdle | rWait1 | rWait2 | rPidle | rWait3 | rPoll | rIdle => rw [hq] at hn; cases hn
  | _ => rfl

theorem issued_setT {s : State} (hn : waitMode s.cfg s.seq = none) (hc : s.seq ≠ .rCheck) (x : Byte) :
    issued (s.setT x) = (issued s).map fun p => (p.1, p.2.setT x) := by
  unfold issued
  rw [issue_setT hn hc, State.setT_seq, State.setT_calls]
  split
  next =>
    cases s.calls with
    | nil => rfl
    | cons c rest =>
      dsimp only
      split
      next => rfl
      next => rw [Option.map_map]; rfl
  next => rw [Option.map_map]; rfl

/-- The step from a state that differs in the low nibble of T takes the same path. -/
theorem step_follows {s : State} {x : Byte} (hx : x &&& 0xF0 = s.t &&& 0xF0) :
    Follows (step s) (step (s.setT x)) := by
  cases hs : s.setup
  · cases hm : waitMode s.cfg s.seq with
    | some m =>
      rw [step_wait hs hm, step_wait (s := s.setT x) hs hm]
      exact .of_next (pollStep_samePath hx m)
    | none =>
      by_cases hc : s.seq = .rCheck
      · rw [step_check hs hc, step_check (s := s.setT x) hs hc]
        exact .of_next (checkSnapshot_samePath hx)
      · have hi' := issued_setT hm hc x
        cases hi : issued s with
        | none =>
          rw [hi] at hi'
          rw [step_unissued hs hi, step_unissued (s := s.setT x) hs hi']
          exact stepUnissued_follows s x
        | some p =>
          rw [hi] at hi'
          rw [step_issued hs hi, step_issued (s := s.setT x) hs hi']
          obtain ⟨-, c, rest, -, -, -, hu⟩ | ⟨-, -, hu⟩ := issued_cases (i := p.1) hi <;>
            exact exec_follows (s := p.2) (by rw [hu]; exact hx) p.1
  · rw [step_setup hs, step_setup (s := s.setT x) hs]
    exact stepSetup_follows s x

/-- Settles O53: the step goes on along the same path. -/
theorem lowNibbleIsNotTested : Obligations.LowNibbleIsNotTested := by
  intro s u x hx h
  obtain ⟨v, hv, hp⟩ := step_follows hx u h
  refine ⟨v, hv, ?_⟩
  rw [hp]
  exact ⟨rfl, rfl, rfl, rfl, rfl, rfl⟩

end Sys2Proof.Machine
end

section
/-! Runs of several steps: a register write with its delay, a classified wait answered at once, and the address phase
made of them (41 R160). -/

namespace Sys2Proof.Safety

open Sys2Proof.Machine

theorem steps_succ {s t : State} (h : step s = .next t) (k : Nat) : steps (k + 1) s = steps k t := by
  simp only [steps, h]

theorem steps_one {s t : State} (h : step s = .next t) : steps 1 s = .next t := steps_succ h 0

/-- A run goes on where a shorter run ended. -/
theorem steps_trans {j k : Nat} {s t : State} {r : Result} (hj : steps j s = .next t) (hk : steps k t = r) :
    steps (j + k) s = r := by
  induction j generalizing s with
  | zero => cases hj; rwa [Nat.zero_add]
  | succ j ih =>
    rw [Nat.add_right_comm]
    cases h : step s with
    | next u =>
      rw [steps_succ h] at hj ⊢
      exact ih hj
    | fault | refused => simp only [steps, h] at hj; cases hj

section writes
variable {s : State} (hs : s.setup = false) (hq : s.seq ≠ .slPass)
include hs hq

/-- A CSR write and its delay, after which SEQ goes on (20_memory R67, R73). -/
theorem steps_writeCsr {w : Byte} (h : step s = .next (s.writeCsr w)) :
    steps 2 s = .next ((wroteCsr s w).goto (afterSetup s.cfg s.op s.seq)) := by
  refine steps_trans (steps_one h) (steps_one ((step_setup rfl).trans ?_))
  simp only [stepSetup, State.writeCsr_seq, hq, if_false]
  cases s; cases hs; rfl

/-- A DATA write and its delay, after which SEQ goes on (20_memory R69, R73). -/
theorem steps_writeData {b : Byte} (h : step s = .next (s.writeData b)) :
    steps 2 s = .next ((wroteData s b).goto (afterSetup s.cfg s.op s.seq)) := by
  refine steps_trans (steps_one h) (steps_one ((step_setup rfl).trans ?_))
  simp only [stepSetup, State.writeData_seq, hq, if_false]
  cases s; cases hs; rfl

end writes

/-- A poll has read the CSR, made its delay and come to its test (40 R132, R133). -/
def polled (s : State) : State :=
  { s.readCsr.log (.delay s.cfg.tPoll) with pseq := .pTest }

/-- A classified wait whose first poll is answered with DATA_REQ goes on with R = 0 after three steps (40 R135). -/
theorem steps_wait_answered {s : State} (hs : s.setup = false) (hm : waitMode s.cfg s.seq = some .req)
    (hp : s.pseq = .pRead) (ha : s.csrView &&& 0x10 ≠ 0) :
    steps 3 s = .next (({ polled s with r := 0 }).goto (afterWait s.cfg s.seq)) := by
  have hread : step s = .next s.pollRead := by rw [step_wait hs hm, State.pollStep, hp]
  have hdelay : step s.pollRead = .next (polled s) := step_pollRead hs hm
  have htest : step (polled s) = .next ((polled s).pollTest .req) := step_wait (s := polled s) hs hm
  have hreq : s.csrView.getLsbD 4 = true := (and_0x10_ne_zero _).1 ha
  have hends : WMode.req.ends (polled s).t = true := by
    rw [WMode.ends_req, show (polled s).t.getLsbD 4 = true from hreq, Bool.true_or]
  have hzero : classify (polled s).t = 0 := by
    rw [classify_eq, show (polled s).t.getLsbD 4 = true from hreq, if_pos rfl]
  have hgo : (polled s).pollTest .req = ({ polled s with r := 0 }).endWait := by
    simp [State.pollTest, hends, State.endClassified, hzero]
  exact steps_trans (steps_one hread) (steps_trans (steps_one hdelay) (steps_one (htest.trans (congrArg _ hgo))))

/-! The address phase. -/

section phase
variable {s : State} (hs : s.setup = false)
include hs

/-- The prologue and AP_SEL (41 R150, R151, R152). -/
theorem steps_prologue (hq : s.seq = .tIrqOff) :
    steps 4 s = .next ((wroteCsr (s.setIe false) s.cfg.cwReset).goto (if ten s.addr then .ap10Hdr else .ap7Addr)) := by
  have hirq : step s = .next ((s.setIe false).goto .tReset) := step_irqOff hs hq
  have hreset : steps 2 ((s.setIe false).goto .tReset)
      = .next ((wroteCsr (s.setIe false) s.cfg.cwReset).goto .apSel) :=
    steps_writeCsr (s := (s.setIe false).goto .tReset) hs nofun (step_reset hs rfl)
  have hsel : step ((wroteCsr (s.setIe false) s.cfg.cwReset).goto .apSel)
      = .next ((wroteCsr (s.setIe false) s.cfg.cwReset).goto (if ten s.addr then .ap10Hdr else .ap7Addr)) :=
    step_select hs rfl
  exact steps_trans (steps_one hirq) (steps_trans hreset (steps_one hsel))

/-- The 7-bit branch (41 R157, R158, R159). -/
theorem steps_sevenBit (hq : s.seq = .ap7Addr) :
    steps 4 s = .next ((wroteCsr (wroteData s (addrW s.addr)) s.cfg.cwStartW).goto (afterAddress s.op)) := by
  have haddr : steps 2 s = .next ((wroteData s (addrW s.addr)).goto .ap7Start) := by
    rw [addrW_eq, steps_writeData hs (by rw [hq]; nofun) (step_addr7 hs hq), hq]; rfl
  have hstart : steps 2 ((wroteData s (addrW s.addr)).goto .ap7Start)
      = .next ((wroteCsr (wroteData s (addrW s.addr)) s.cfg.cwStartW).goto (afterAddress s.op)) :=
    steps_writeCsr (s := (wroteData s (addrW s.addr)).goto .ap7Start) hs nofun (step_start7 hs rfl)
  exact steps_trans haddr hstart

/-- The 10-bit branch up to its wait (41 R153, R154). -/
theorem steps_tenBitStart (hq : s.seq = .ap10Hdr) :
    steps 4 s = .next { wroteCsr (wroteData s (hdrW s.addr)) s.cfg.cwStartW with
      seq := .ap10Wait, pseq := .pRead } := by
  have hhdr : steps 2 s = .next { wroteData s (hdrW s.addr) with seq := .ap10Start } := by
    rw [hdrW_eq, steps_writeData hs (by rw [hq]; nofun) (step_header hs hq), hq]; rfl
  have hstart : steps 2 { wroteData s (hdrW s.addr) with seq := .ap10Start }
      = .next { wroteCsr (wroteData s (hdrW s.addr)) s.cfg.cwStartW with seq := .ap10Wait, pseq := .pRead } :=
    steps_writeCsr (s := { wroteData s (hdrW s.addr) with seq := .ap10Start }) hs nofun (step_start10 hs rfl)
  exact steps_trans hhdr hstart

/-- The wait of the 10-bit branch, answered with DATA_REQ, and the low byte (41 R155, R156, R159). -/
theorem steps_tenBitLow (hq : s.seq = .ap10Wait) (hp : s.pseq = .pRead) (ha : s.csrView &&& 0x10 ≠ 0) :
    steps 5 s = .next ((wroteData { polled s with r := 0 } (addrW s.addr)).goto (afterAddress s.op)) := by
  have hwait : steps 3 s = .next (({ polled s with r := 0 }).goto .ap10Low) := by
    rw [steps_wait_answered hs (by rw [hq]; rfl) hp ha, hq]; rfl
  have hlow : steps 2 (({ polled s with r := 0 }).goto .ap10Low)
      = .next ((wroteData { polled s with r := 0 } (addrW s.addr)).goto (afterAddress s.op)) := by
    rw [addrW_eq]
    exact steps_writeData (s := ({ polled s with r := 0 }).goto .ap10Low) hs (nofun : Seq.ap10Low ≠ .slPass)
      (step_low hs rfl)
  exact steps_trans hwait hlow

/-- The 10-bit branch, its wait answered with DATA_REQ (41 R153 to R156, R159). -/
theorem steps_tenBit (hq : s.seq = .ap10Hdr) (ha : s.csrView &&& 0x10 ≠ 0) :
    steps 9 s = .next (({ s with
        csrWrite := s.cfg.cwStartW, dataWrite := addrW s.addr, pseq := .pTest
        t := s.csrView, r := 0, csrAnswers := s.csrAnswers.tail, csrReads := s.csrReads + 1
        trace := ([.delay s.cfg.tSetup, .dataWrite (addrW s.addr), .delay s.cfg.tPoll, .csrRead s.csrView,
          .delay s.cfg.tSetup, .csrWrite s.cfg.cwStartW, .delay s.cfg.tSetup, .dataWrite (hdrW s.addr)] : List Action)
          ++ s.trace }).goto (afterAddress s.op)) := by
  have hlow := steps_tenBitLow (s := { wroteCsr (wroteData s (hdrW s.addr)) s.cfg.cwStartW with
    seq := .ap10Wait, pseq := .pRead }) hs rfl rfl ha
  have hrun := steps_trans (steps_tenBitStart hs hq) hlow
  rw [hrun]
  rfl

end phase

/-- Settles O56: the prologue, then the 7-bit branch. -/
theorem sevenBitAddressPhase : Obligations.SevenBitAddressPhase := by
  intro s hs hq ha
  have hten : ten s.addr = false := decide_eq_false (Nat.not_lt.2 ha)
  have hpro := steps_prologue hs hq
  rw [hten] at hpro
  exact steps_trans hpro (steps_sevenBit (s := (wroteCsr (s.setIe false) s.cfg.cwReset).goto .ap7Addr) hs rfl)

/-- Settles O57: the prologue, then the 10-bit branch with its wait. -/
theorem tenBitAddressPhase : Obligations.TenBitAddressPhase := by
  intro s hs hq ha hreq
  have hten : ten s.addr = true := decide_eq_true ha
  have hpro := steps_prologue hs hq
  rw [hten] at hpro
  have hbranch := steps_tenBit (s := (wroteCsr (s.setIe false) s.cfg.cwReset).goto .ap10Hdr) hs rfl hreq
  exact steps_trans hpro hbranch

end Sys2Proof.Safety
end

section
/-! The test step of a poll and how each wait ends (40 R131 to R140), stated with the poll masks. -/

namespace Sys2Proof.Machine

/-! The masks and the result of a classified wait. -/

theorem WMode.ends_eq_true (m : WMode) (t : Byte) : m.ends t = true ↔ t &&& m.mask ≠ 0 := bne_iff_ne

theorem WMode.ends_eq_false (m : WMode) (t : Byte) : m.ends t = false ↔ t &&& m.mask = 0 := bne_eq_false_iff_eq

theorem classify_of_dataReq {t : Byte} (h : t &&& 0x10 ≠ 0) : classify t = 0 := if_pos (bne_iff_ne.2 h)

theorem classify_of_not_dataReq {t : Byte} (h : t &&& 0x10 = 0) : classify t = t := by
  rw [classify_eq, if_neg (mt (and_0x10_ne_zero t).2 (not_not.2 h))]

/-- "if bit 4 is clear, bit 7 is set" (40 R139). -/
theorem idle_of_not_dataReq {t : Byte} (he : t &&& 0x90 ≠ 0) (hreq : t &&& 0x10 = 0) : t &&& 0x80 ≠ 0 := by
  revert t; decide

theorem ne_zero_of_and_ne_zero {t m : Byte} (h : t &&& m ≠ 0) : t ≠ 0 := by
  rintro rfl
  exact h BitVec.zero_and

/-! The test step. -/

section pTest
variable {s : State} (hp : s.pseq = .pTest)
include hp

/-- No bit of the mask: poll again (40 R134). -/
theorem State.pollStep_spin {m : WMode} (h : s.t &&& m.mask = 0) : s.pollStep m = s.pollAgain := by
  simp [State.pollStep, hp, State.pollTest, (m.ends_eq_false s.t).2 h]

/-- A bit of the mask of an unclassified wait: go on (40 R136 to R138). -/
theorem State.pollStep_endWait {m : WMode} (hm : m ≠ .req) (h : s.t &&& m.mask ≠ 0) : s.pollStep m = s.endWait := by
  simp [State.pollStep, hp, State.pollTest, (m.ends_eq_true s.t).2 h, hm]

/-- A bit of the mask of WAIT_REQ: the wait ends classified (40 R135). -/
theorem State.pollStep_endClassified (he : s.t &&& 0x90 ≠ 0) : s.pollStep .req = s.endClassified := by
  simp [State.pollStep, hp, State.pollTest, (WMode.ends_eq_true .req s.t).2 he]

/-- DATA_REQ ends WAIT_REQ with R = 0, whatever else the snapshot has set (40 R135). -/
theorem State.pollStep_req_proceed (he : s.t &&& 0x90 ≠ 0) (hreq : s.t &&& 0x10 ≠ 0) :
    s.pollStep .req = ({ s with r := 0 }).endWait := by
  rw [State.pollStep_endClassified hp he]
  obtain ⟨-, hgo⟩ | ⟨hne, -⟩ := s.endClassified_cases
  · exact hgo
  · exact absurd (classify_of_dataReq hreq) hne

/-- IDLE without DATA_REQ ends WAIT_REQ with R = T, which is not 0, and the caller aborts (40 R135, 60 R242). -/
theorem State.pollStep_req_terminal (he : s.t &&& 0x90 ≠ 0) (hreq : s.t &&& 0x10 = 0) :
    s.pollStep .req = ({ s with r := s.t }).raiseAbort .r := by
  have hr := classify_of_not_dataReq hreq
  rw [State.pollStep_endClassified hp he]
  obtain ⟨hz, -⟩ | ⟨-, habort⟩ := s.endClassified_cases
  · exact absurd (hr.symm.trans hz) (ne_zero_of_and_ne_zero he)
  · rwa [hr] at habort

end pTest

/-- Each row of a wait, with its mask, is the row of a mode. -/
theorem mode_of_row {i : Instr} {x : Byte}
    (h : (i, x) ∈ [(Instr.waitReq, (0x90 : Byte)), (.waitAny, 0x90), (.waitRdy, 0xA0), (.waitIdle, 0x80)]) :
    ∃ m : WMode, i = m.instr ∧ x = m.mask := by
  simp only [List.mem_cons, List.not_mem_nil, or_false, Prod.mk.injEq] at h
  obtain ⟨rfl, rfl⟩ | ⟨rfl, rfl⟩ | ⟨rfl, rfl⟩ | ⟨rfl, rfl⟩ := h
  · exact ⟨.req, rfl, rfl⟩
  · exact ⟨.any, rfl, rfl⟩
  · exact ⟨.rdy, rfl, rfl⟩
  · exact ⟨.idle, rfl, rfl⟩

/-- Settles O19: the row of a mode is one step of its poll, by PSEQ. -/
theorem pollSteps : Obligations.PollSteps := by
  intro s i x hi
  obtain ⟨m, rfl, rfl⟩ := mode_of_row hi
  rw [exec_mode]
  refine ⟨fun hp => ?_, fun hp => ?_, fun hp hspin => ?_⟩
  · rw [State.pollStep, hp]; rfl
  · rw [State.pollStep, hp]; rfl
  · rw [State.pollStep_spin hp hspin]; rfl

/-- Settles O20: DATA_REQ is looked at first, then R is T. -/
theorem waitReqExit : Obligations.WaitReqExit := fun _ hp he =>
  ⟨fun hreq => congrArg _ (State.pollStep_req_proceed hp he hreq),
    fun hreq => congrArg _ (State.pollStep_req_terminal hp he hreq)⟩

/-- Settles O21: none of the three modes is classified. -/
theorem unclassifiedWaitExit : Obligations.UnclassifiedWaitExit := fun _ hp =>
  ⟨fun h => congrArg _ (State.pollStep_endWait (m := .any) hp nofun h),
    fun h => congrArg _ (State.pollStep_endWait (m := .rdy) hp nofun h),
    fun h => congrArg _ (State.pollStep_endWait (m := .idle) hp nofun h)⟩

/-- Settles O23, by the two exits of WAIT_REQ. -/
theorem waitReqResult : Obligations.WaitReqResult := by
  intro s t hp he ht
  obtain ⟨hproceed, hterminal⟩ := waitReqExit s hp he
  by_cases hreq : s.t &&& 0x10 = 0
  · obtain rfl := Host.Outcome.next.inj ((hterminal hreq).symm.trans ht)
    have hne : s.t ≠ 0 := ne_zero_of_and_ne_zero he
    exact ⟨iff_of_false hne (not_not.2 hreq), fun _ => ⟨rfl, idle_of_not_dataReq he hreq⟩⟩
  · obtain rfl := Host.Outcome.next.inj ((hproceed hreq).symm.trans ht)
    exact ⟨iff_of_true rfl hreq, fun hne => absurd rfl hne⟩

/-- Settles O24: NO_ACK is in no mask, so the snapshot spins like any other without a bit of the mask. -/
theorem nackAloneSpins : Obligations.NackAloneSpins := by
  intro s m hs hm hp _ hspin
  rw [step_wait hs hm, State.pollStep_spin hp hspin]
  rfl

end Sys2Proof.Machine
end

section
/-! Whole polls of a waiting state: three steps, after which the wait has ended or the next poll begins (40 R131, R141;
70 R296, R306). -/

namespace Sys2Proof.Safety

open Sys2Proof.Machine

/-- A waiting state is none of its successors, and not T_ABORT. -/
theorem leaves_of_waitMode {c : Config} {q : Seq} {m : WMode} (h : waitMode c q = some m) :
    afterWait c q ≠ q ∧ Seq.tAbort ≠ q := by
  cases q with
  | rPoll => exact ⟨by simp only [afterWait]; split <;> nofun, nofun⟩
  | ap10Wait | wWait | wFwait | wIdle | rWait1 | rWait2 | rPidle | rWait3 | rIdle => exact ⟨nofun, nofun⟩
  | _ => cases h

section poll
variable {s : State} {m : WMode} (hs : s.setup = false) (hm : waitMode s.cfg s.seq = some m) (hp : s.pseq = .pRead)
include hs hm hp

/-- The read, the delay and the test of a poll, in any mode (40 R131). -/
theorem steps_poll : steps 3 s = .next ((polled s).pollStep m) := by
  have hread : step s = .next s.pollRead := by rw [step_wait hs hm, State.pollStep, hp]
  have hdelay : step s.pollRead = .next (polled s) := step_pollRead hs hm
  have htest : step (polled s) = .next ((polled s).pollStep m) := step_wait (s := polled s) hs hm
  exact steps_trans (steps_one hread) (steps_trans (steps_one hdelay) (steps_one htest))

/-- A poll that is answered without a bit of the mask begins the next one (40 R134). -/
theorem steps_poll_spin (h : s.csrView &&& m.mask = 0) : steps 3 s = .next (polled s).pollAgain := by
  rw [steps_poll hs hm hp, State.pollStep_spin (s := polled s) rfl h]

end poll

/-- Settles O28, by induction on the unawaited answers: each is one poll that comes back to P_READ. -/
theorem stuckBusSpins : Obligations.StuckBusSpins := by
  intro s m as rest hs hm hp ha hspin
  induction as generalizing s with
  | nil => exact ⟨s, rfl, rfl, hp, ha, rfl, rfl, rfl, rfl, rfl, rfl⟩
  | cons a as ih =>
    obtain ⟨hfirst, hothers⟩ := List.forall_mem_cons.1 hspin
    have hview : s.csrView = a := by rw [State.csrView, ha]; rfl
    have htail : (polled s).pollAgain.csrAnswers = as ++ rest := congrArg List.tail ha
    have hpoll := steps_poll_spin hs hm hp (hview ▸ hfirst)
    obtain ⟨t, hrun, hseq, hpseq, hans, hreads, hbusy, hie, hret, hbuf, hwrites⟩ :=
      ih (polled s).pollAgain hs hm rfl htail hothers
    have hlen : 3 * (a :: as).length = 3 + 3 * as.length := (Nat.mul_succ ..).trans (Nat.add_comm ..)
    have hcount : t.csrReads = s.csrReads + (a :: as).length :=
      hreads.trans (Nat.add_right_comm s.csrReads 1 as.length)
    exact ⟨t, hlen ▸ steps_trans hpoll hrun, hseq, hpseq, hans, hcount, hbusy, hie, hret, hbuf, hwrites⟩

/-- Settles O29: the test of the poll goes on to the successor, or aborts with R = T. -/
theorem answeredWaitEnds : Obligations.AnsweredWaitEnds := by
  intro s m hs hm hp ha
  obtain ⟨hafter, habort⟩ := leaves_of_waitMode hm
  refine ⟨_, steps_poll hs hm hp, ?_⟩
  by_cases hreq : m = .req
  · subst hreq
    by_cases hdata : s.csrView &&& 0x10 = 0
    · rw [State.pollStep_req_terminal (s := polled s) rfl ha hdata]
      exact ⟨rfl, habort, .inr ⟨rfl, rfl, rfl⟩⟩
    · rw [State.pollStep_req_proceed (s := polled s) rfl ha hdata]
      exact ⟨rfl, hafter, .inl rfl⟩
  · rw [State.pollStep_endWait (s := polled s) rfl hreq ha]
    exact ⟨rfl, hafter, .inl rfl⟩

end Sys2Proof.Safety
end

section
/-! Who writes IE (60 R254): the interrupt bracket of a transaction, T_IRQ_OFF and the epilogue, and no other step. -/

namespace Sys2Proof.Machine

/-- What the step from s to t did to IE: it kept IE and made no IE write, or it is a step of the interrupt bracket,
whose one action is the IE write. -/
inductive IeEffect (s t : State) : Prop
  | kept (ie : t.ie = s.ie) (quiet : ∀ b, t.trace ≠ .ieWrite b :: s.trace)
  | cleared (seq : s.seq = .tIrqOff) (ie : t.ie = false) (trace : t.trace = .ieWrite false :: s.trace)
  | raised (seq : s.seq = .tOk ∨ s.seq = .tAbort) (ie : t.ie = true) (trace : t.trace = .ieWrite true :: s.trace)

@[simp] theorem State.nextSlave_ie (s : State) : s.nextSlave.ie = s.ie := by
  obtain ⟨-, h⟩ | ⟨-, h⟩ := s.nextSlave_cases <;> rw [h]

/-- Presenting the command that is issued leaves IE. -/
theorem issued_ie {s u : State} {i : Instr} (h : issued s = some (i, u)) : u.ie = s.ie := by
  obtain ⟨-, c, rest, -, -, -, rfl⟩ | ⟨-, -, rfl⟩ := issued_cases h <;> rfl

/-- A poll makes no IE write (40 R131). -/
theorem pollStep_ne_ieWrite (s : State) (m : WMode) (b : Bool) : (s.pollStep m).trace ≠ .ieWrite b :: s.trace := by
  obtain ⟨-, h⟩ | ⟨-, h⟩ | ⟨-, h⟩ := s.pollStep_cases m <;> rw [h]
  · nofun
  · nofun
  · exact ne_cons_of_trace (s.pollTest_trace m)

/-- No row of the opcode table makes an IE write. -/
theorem exec_ne_ieWrite {i : Instr} {s t : State} (h : exec i s = .next t) (b : Bool) :
    t.trace ≠ .ieWrite b :: s.trace := by
  cases i with
  | masterWrite | masterRead | registerSlave | noCommand => exact ne_cons_of_trace (exec_command_trace rfl h)
  | waitReq | waitAny | waitRdy | waitIdle => cases h; exact pollStep_ne_ieWrite s _ b
  | cwReset | cwStartW | cwStopW | cwPivot | cwStartR | cwStopR | cwSlaveReset | cwSlaveEnable => cases h; nofun
  | hdr10W | hdr10R | addr7W | addr7R | subaddrByte | wdataByte | dummyByte => cases h; nofun
  | stReqSpin | stIdleSpin | stIdleEnd => cases h; exact ne_cons_of_trace rfl
  | stRdySpin => exact ne_cons_of_trace (trace_of_ite_next h s.checkSnapshot_trace rfl)
  | stReqProceed | stReqTerminal | stRdyAccept | stRdyAbortIdle | stRdyAbortNack =>
    exact ne_cons_of_trace (trace_of_ite_next h rfl rfl)

namespace IeEffect
variable {s t : State}

theorem of_same (hie : t.ie = s.ie) (htr : t.trace = s.trace) : IeEffect s t :=
  .kept hie fun _ => ne_cons_of_trace htr

/-- An action that is no IE write. -/
theorem of_cons {a : Action} (hie : t.ie = s.ie) (htr : t.trace = a :: s.trace) (ha : ∀ b, a ≠ .ieWrite b) :
    IeEffect s t :=
  .kept hie fun b hb => ha b (List.cons.inj (htr.symm.trans hb)).1

theorem of_stepSetup (h : stepSetup s = .next t) : IeEffect s t := by
  refine .of_cons ?_ (stepSetup_trace h) nofun
  cases h
  split
  · rw [State.nextSlave_ie]; rfl
  · rfl

theorem of_issued {u : State} {i : Instr} (hi : issued s = some (i, u)) (h : exec i u = .next t) : IeEffect s t := by
  obtain ⟨-, hie, -⟩ := instructionFrame i u t h
  exact .kept (hie.trans (issued_ie hi)) (issued_trace hi ▸ exec_ne_ieWrite h)

/-- An idle ENGINE that executes no command does nothing or is reset, which leaves IE (70 R281). -/
theorem of_stepIdle (h : stepIdle s = .next t) : IeEffect s t := by
  refine .of_same ?_ (stepIdle_trace h)
  unfold stepIdle at h
  split at h
  · cases h; rfl
  · split at h <;> cases h
    rfl

/-- SL_PASS when its next action is no row. -/
theorem of_stepSlave (h : stepSlave s = .next t) : IeEffect s t := by
  unfold stepSlave at h
  split at h
  · cases h; exact .of_same s.nextSlave_ie s.nextSlave_trace
  next w _ _ =>
    cases h
    obtain ⟨x, -, hr⟩ | ⟨b, -, hr⟩ := s.convey_cases w <;> rw [hr]
    · exact .of_cons rfl (s.writeCsr_trace _) nofun
    · exact .of_cons rfl (s.writeData_trace b) nofun
  · refine .of_cons ?_ (stepAttach_trace h) nofun
    cases h
    rw [State.nextSlave_ie]; rfl
  · cases h; exact .of_same rfl rfl
  · cases h; exact .of_same rfl rfl

/-- Of the steps of the sequencer only those of the interrupt bracket write IE (41 R150, 60 R245, R246). -/
theorem of_stepUnissued (h : stepUnissued s = .next t) : IeEffect s t := by
  unfold stepUnissued at h
  cases hq : s.seq with
  | tIrqOff => rw [hq] at h; cases h; exact .cleared hq rfl (s.setIe_trace false)
  | tOk => rw [hq] at h; cases h; exact .raised (.inl hq) rfl (s.finish_trace _)
  | tAbort => rw [hq] at h; cases h; exact .raised (.inr hq) rfl (s.finish_trace _)
  | sIdle => rw [hq] at h; exact .of_stepIdle h
  | slPass => rw [hq] at h; exact .of_stepSlave h
  | wLoad =>
    rw [hq] at h
    obtain ⟨-, rfl⟩ := stepLoad_next h
    exact .of_cons rfl rfl nofun
  | rFetch => rw [hq] at h; cases h; exact .of_cons rfl s.readData_trace nofun
  | rStore =>
    rw [hq] at h
    obtain ⟨-, rfl⟩ := stepStore_next h
    exact .of_cons rfl rfl nofun
  | _ => rw [hq] at h; cases h; exact .of_same rfl rfl

end IeEffect

/-- Every step keeps IE, or is one of the interrupt bracket. -/
theorem step_ieEffect {s t : State} (h : step s = .next t) : IeEffect s t := by
  obtain ⟨-, hs⟩ | ⟨-, i, u, hi, hs⟩ | ⟨-, -, hs⟩ := step_cases s <;> rw [hs] at h
  · exact .of_stepSetup h
  · exact .of_issued hi h
  · exact .of_stepUnissued h

/-- Settles O49, by what a step does to IE. -/
theorem onlyBracketWritesIe : Obligations.OnlyBracketWritesIe := by
  intro s t h
  cases step_ieEffect h with
  | kept hie hquiet =>
    exact ⟨fun hne => absurd hie hne, fun hf => absurd hf (hquiet false), fun ht => absurd ht (hquiet true)⟩
  | cleared hq hie htr =>
    rw [hie, htr]
    exact ⟨fun _ => rfl, fun _ => hq, nofun⟩
  | raised hq hie htr =>
    rw [hie, htr]
    exact ⟨fun _ => rfl, nofun, fun _ => hq⟩

end Sys2Proof.Machine
end

section
/-! The states of the prologue and of the address phase, and where each classified wait goes (41 R150 to R159, 42 R173,
43 R191, R193, R199). -/

namespace Sys2Proof.Safety

open Sys2Proof.Machine

/-! A register write in a named state, with its delay (20_memory R73). -/

section write
variable {s : State} {q : Seq} (hs : s.setup = false) (hq : s.seq = q) (hsl : q ≠ .slPass)
include hs hq hsl

theorem steps_writeCsr_at {w : Byte} (h : step s = .next (s.writeCsr w)) :
    steps 2 s = .next ((wroteCsr s w).goto (afterSetup s.cfg s.op q)) := by
  subst hq
  exact steps_writeCsr hs hsl h

theorem steps_writeData_at {b : Byte} (h : step s = .next (s.writeData b)) :
    steps 2 s = .next ((wroteData s b).goto (afterSetup s.cfg s.op q)) := by
  subst hq
  exact steps_writeData hs hsl h

end write

/-- Settles O38: each state makes its one register write, and the delay after it goes to afterSetup's successor. -/
theorem addressPhaseStates : Obligations.AddressPhaseStates := by
  intro s hs
  rw [hdrW_eq, addrW_eq]
  exact ⟨fun hq => steps_writeCsr_at hs hq nofun (step_reset hs hq),
    fun hq => steps_writeData_at hs hq nofun (step_header hs hq),
    fun hq => steps_writeCsr_at hs hq nofun (step_start10 hs hq),
    fun hq => steps_writeData_at hs hq nofun (step_low hs hq),
    fun hq => steps_writeData_at hs hq nofun (step_addr7 hs hq),
    fun hq => steps_writeCsr_at hs hq nofun (step_start7 hs hq)⟩

/-- Settles O40: neither successor of AP_SEL is a waiting state, so SEQ alone is written. -/
theorem prologueSteps : Obligations.PrologueSteps := by
  intro s hs
  refine ⟨fun hq => step_irqOff hs hq, fun hq => ?_⟩
  rw [step_select hs hq]
  by_cases ha : s.addr.toNat > 127
  · rw [show ten s.addr = true from decide_eq_true ha, if_pos ha]; rfl
  · rw [show ten s.addr = false from decide_eq_false ha, if_neg ha]; rfl

/-! The classified waits. -/

/-- Each of the five states is a classified wait, and its successor is the one named, which does not wait. -/
theorem classifiedWait_of_mem {q q' : Seq} (c : Config)
    (h : (q, q') ∈ [(Seq.ap10Wait, Seq.ap10Low), (.wWait, .wLoad), (.rWait1, .rSub), (.rWait2, .rReaddr),
      (.rWait3, .rInit)]) :
    waitMode c q = some .req ∧ afterWait c q = q' ∧ waitMode c q' = none := by
  simp only [List.mem_cons, List.not_mem_nil, or_false, Prod.mk.injEq] at h
  obtain ⟨rfl, rfl⟩ | ⟨rfl, rfl⟩ | ⟨rfl, rfl⟩ | ⟨rfl, rfl⟩ | ⟨rfl, rfl⟩ := h <;> exact ⟨rfl, rfl, rfl⟩

/-- DATA_REQ is in the mask of WAIT_REQ (30_encoding R99). -/
theorem awaited_of_dataReq {t : Byte} (h : t &&& 0x10 ≠ 0) : t &&& 0x90 ≠ 0 := by
  revert t; decide

/-- A terminal snapshot has IDLE set and DATA_REQ clear (30_encoding R112). -/
theorem not_dataReq_of_terminal {t : Byte} (h : t &&& 0x90 = 0x80) : t &&& 0x10 = 0 := by
  revert t; decide

/-- Settles O25, by the two exits of WAIT_REQ. -/
theorem classifiedWaitSuccessors : Obligations.ClassifiedWaitSuccessors := by
  intro s q q' hmem hs hq hp
  subst hq
  obtain ⟨hm, rfl, hplain⟩ := classifiedWait_of_mem s.cfg hmem
  rw [step_wait hs hm]
  refine ⟨fun hreq => congrArg _ ?_, fun hterm => congrArg _ ?_⟩
  · rw [State.pollStep_req_proceed hp (awaited_of_dataReq hreq) hreq]
    exact State.goto_plain { s with r := 0 } hplain
  · have he : s.t &&& 0x90 ≠ 0 := hterm ▸ (by decide : (0x80 : Byte) ≠ 0)
    rw [State.pollStep_req_terminal hp he (not_dataReq_of_terminal hterm)]
    rfl

end Sys2Proof.Safety
end

section
/-! The states of the write body (42 R171 to R179) and of its counterparts in the read body: the waits with their
switches, the register writes, the loop counters, W_LOAD and R_FETCH. -/

namespace Sys2Proof.Safety

open Sys2Proof.Machine

/-! The test step of a wait, with its successor. -/

section pTest
variable {s : State} (hs : s.setup = false) (hp : s.pseq = .pTest)
include hs hp

/-- DATA_REQ ends a classified wait with R = 0 (40 R135). -/
theorem step_wait_proceed (hm : waitMode s.cfg s.seq = some .req) (hreq : s.t &&& 0x10 ≠ 0) :
    step s = .next (({ s with r := 0 }).goto (afterWait s.cfg s.seq)) := by
  rw [step_wait hs hm, State.pollStep_req_proceed hp (awaited_of_dataReq hreq) hreq]
  rfl

/-- IDLE without DATA_REQ ends a classified wait with an abort that carries T (40 R135, 60 R242). -/
theorem step_wait_terminal (hm : waitMode s.cfg s.seq = some .req) (hterm : s.t &&& 0x90 = 0x80) :
    step s = .next { s with r := s.t, abortSrc := .r, seq := .tAbort } := by
  have he : s.t &&& 0x90 ≠ 0 := hterm ▸ (by decide : (0x80 : Byte) ≠ 0)
  rw [step_wait hs hm, State.pollStep_req_terminal hp he (not_dataReq_of_terminal hterm)]
  rfl

/-- A bit of the mask ends an unclassified wait (40 R136 to R138). -/
theorem step_wait_unclassified {m : WMode} (hm : waitMode s.cfg s.seq = some m) (hreq : m ≠ .req)
    (h : s.t &&& m.mask ≠ 0) : step s = .next (s.goto (afterWait s.cfg s.seq)) := by
  rw [step_wait hs hm, State.pollStep_endWait hp hreq h]
  rfl

end pTest

/-- With its switch at the default each of the five states makes a wait that is not classified, with the mask named, and
its successor is the one named, which does not wait. -/
theorem unclassifiedWait_of_mem {q q' : Seq} {x : Byte} {c : Config}
    (h : (q, x, q') ∈ [(Seq.wFwait, (0x90 : Byte), Seq.wStop), (.wIdle, 0x80, .tOk), (.rPidle, 0x80, .rStart),
      (.rPoll, 0xA0, .rLstop), (.rIdle, 0x80, .tOk)])
    (hf : q = .wFwait → c.finalWaitAborts = false) (hl : q = .rPoll → c.lastStopBeforePoll = false) :
    ∃ m : WMode, m ≠ .req ∧ m.mask = x ∧ waitMode c q = some m ∧ afterWait c q = q' ∧ waitMode c q' = none := by
  simp only [List.mem_cons, List.not_mem_nil, or_false, Prod.mk.injEq] at h
  obtain ⟨rfl, rfl, rfl⟩ | ⟨rfl, rfl, rfl⟩ | ⟨rfl, rfl, rfl⟩ | ⟨rfl, rfl, rfl⟩ | ⟨rfl, rfl, rfl⟩ := h
  · exact ⟨.any, nofun, rfl, by simp [waitMode, hf], rfl, rfl⟩
  · exact ⟨.idle, nofun, rfl, rfl, rfl, rfl⟩
  · exact ⟨.idle, nofun, rfl, rfl, rfl, rfl⟩
  · exact ⟨.rdy, nofun, rfl, rfl, by simp [afterWait, hl], rfl⟩
  · exact ⟨.idle, nofun, rfl, rfl, rfl, rfl⟩

/-- Settles O26: an unclassified wait ends on any bit of its mask. -/
theorem unclassifiedWaitSuccessors : Obligations.UnclassifiedWaitSuccessors := by
  intro s q q' x hmem hf hl hs hq hp hx
  subst hq
  obtain ⟨m, hreq, rfl, hm, rfl, hplain⟩ := unclassifiedWait_of_mem hmem hf hl
  rw [step_wait_unclassified hs hp hm hreq hx, State.goto_plain s hplain]

/-- Settles O27: with its switch on W_FWAIT is a WAIT_REQ, and R_LSTOP stands before R_POLL. -/
theorem switchedWaitSuccessors : Obligations.SwitchedWaitSuccessors := by
  refine ⟨fun s hx hs hq hp => ?_, fun s hx hs => ⟨fun hq => ?_, fun hq hl => ?_, fun hq hl => ?_, fun hq hp ht => ?_⟩⟩
  · have hm : waitMode s.cfg s.seq = some .req := by simp [hq, waitMode, hx]
    refine ⟨fun hreq => ?_, step_wait_terminal hs hp hm⟩
    rw [step_wait_proceed hs hp hm hreq, hq]
    rfl
  · rw [step_readTest hs hq, hx, if_pos rfl]
  · have hnext : afterSetup s.cfg s.op .rLstop = .rPoll := by simp [afterSetup, afterLstop, hx]
    rw [steps_writeCsr_at hs hq nofun (step_lastStop hs hq hl), hnext]
    rfl
  · rw [step_notLast hs hq hl, show afterLstop s.cfg = .rPoll by simp [afterLstop, hx]]
    rfl
  · have hm : waitMode s.cfg s.seq = some .rdy := by rw [hq]; rfl
    have hnext : afterWait s.cfg s.seq = .rCheck := by simp [hq, afterWait, hx]
    rw [step_wait_unclassified hs hp hm nofun ht, hnext]
    rfl

/-- Settles O39: each state makes its one register write, and the delay after it goes to afterSetup's successor; R_LSTOP
before the final byte makes none. -/
theorem bodyWriteStates : Obligations.BodyWriteStates := by
  intro s hs
  refine ⟨fun hq => steps_writeData_at hs hq nofun (step_byte hs hq),
    fun hq => steps_writeCsr_at hs hq nofun (step_stop hs hq),
    fun hq => steps_writeData_at hs hq nofun (step_sub hs hq),
    fun hq => ?_,
    fun hq => steps_writeCsr_at hs hq nofun (step_pivot hs hq),
    fun hq => steps_writeCsr_at hs hq nofun (step_startR hs hq),
    fun hq hl => steps_writeCsr_at hs hq nofun (step_lastStop hs hq hl),
    fun hq hl => step_notLast hs hq hl,
    fun hq => steps_writeData_at hs hq nofun (step_dummy hs hq)⟩
  rw [steps_writeData_at hs hq nofun (step_readdr hs hq), hdrR_eq, addrR_eq]
  simp only [ten, decide_eq_true_eq]
  rfl

/-- Settles O41: neither test is a waiting state, so the counters write IDX and SEQ alone. -/
theorem loopCounterSteps : Obligations.LoopCounterSteps := fun _ hs =>
  ⟨step_writeInit hs, step_writeTest hs, step_writeInc hs, step_readInit hs, step_readTest hs, step_readInc hs⟩

/-- Settles O42: inside an iteration the invariant has IDX < LEN, and LEN fits LEN_W bits. -/
theorem incrementDoesNotWrap : Obligations.IncrementDoesNotWrap := by
  intro s h hs hq
  have hloop : inLoop s.seq = true := by obtain hq | hq := hq <;> rw [hq] <;> rfl
  have hmaster : inMaster s.seq = true := by obtain hq | hq := hq <;> rw [hq] <;> rfl
  have hidx : s.idx < s.len := h.idx_loop hloop
  refine ⟨?_, hidx, hidx, (h.len_fits hmaster).2⟩
  obtain hq | hq := hq
  · rw [step_writeInc hs hq, hq]; rfl
  · rw [step_readInc hs hq, hq]; rfl

/-- W_LOAD has latched the buffer byte at IDX (42 R174). -/
def loaded (s : State) : State :=
  { s with v := s.buf.read s.idx, trace := .bufRead s.idx (s.buf.read s.idx) :: s.trace, seq := .wByte }

/-- W_LOAD at an index of BUF (42 R174). -/
theorem step_load_of_lt {s : State} (hs : s.setup = false) (hq : s.seq = .wLoad) (hl : s.idx < s.len)
    (hb : s.idx < s.buf.size) : step s = .next (loaded s) := by
  rw [step_load hs hq, stepLoad, if_pos ((s.bufIndexOk_iff s.idx).2 ⟨hl, hb⟩)]
  rfl

/-- Settles O43, by the steps of the two states. -/
theorem loadAndFetch : Obligations.LoadAndFetch := fun _ hs =>
  ⟨step_load_of_lt hs, step_fetch hs⟩

end Sys2Proof.Safety
end

section
/-! A whole MASTER_WRITE (42 R170, R183) as segments of a run put end to end: a segment says which CSR answers were used
up and which registers were written, and that the transaction's operands stayed. -/

namespace Sys2Proof.Safety

open Sys2Proof.Machine

/-- What stays as it is from the acceptance of a master command to its end, a MASTER_READ's buffer and DATA answers
aside. -/
structure Job where
  setup : Bool
  cfg : Config
  op : BitVec 2
  addr : DevAddr
  subaddr : Byte
  len : Nat
  buf : Buffer
  calls : List HostCall
  dataAnswers : List Byte
  dataReads : Nat

/-- The job in hand in a state. -/
def jobOf (s : State) : Job where
  setup := s.setup
  cfg := s.cfg
  op := s.op
  addr := s.addr
  subaddr := s.subaddr
  len := s.len
  buf := s.buf
  calls := s.calls
  dataAnswers := s.dataAnswers
  dataReads := s.dataReads

/-- A run leads from s to t, reading exactly the CSR answers listed and making exactly the register writes listed (oldest
first), and keeps the job. -/
structure Segment (s t : State) (answers : List Byte) (writes : List Action) : Prop where
  reached : ∃ k, steps k s = .next t
  job : jobOf t = jobOf s
  answered : s.csrAnswers = answers ++ t.csrAnswers
  reads : t.csrReads = s.csrReads + answers.length
  written : regWrites t.trace = writes.reverse ++ regWrites s.trace

namespace Segment

theorem trans {s t u : State} {as bs : List Byte} {ws xs : List Action} (h : Segment s t as ws)
    (h' : Segment t u bs xs) : Segment s u (as ++ bs) (ws ++ xs) where
  reached := by
    obtain ⟨j, hj⟩ := h.reached
    obtain ⟨k, hk⟩ := h'.reached
    exact ⟨j + k, steps_trans hj hk⟩
  job := h'.job.trans h.job
  answered := by rw [h.answered, h'.answered, List.append_assoc]
  reads := by rw [h'.reads, h.reads, List.length_append, Nat.add_assoc]
  written := by rw [h'.written, h.written, List.reverse_append, List.append_assoc]

theorem refl (s : State) : Segment s s [] [] := ⟨⟨0, rfl⟩, rfl, rfl, rfl, rfl⟩

/-- A step that reads no CSR and writes no register. -/
theorem of_step {s t : State} (h : step s = .next t) (hj : jobOf t = jobOf s) (ha : t.csrAnswers = s.csrAnswers)
    (hr : t.csrReads = s.csrReads) (hw : regWrites t.trace = regWrites s.trace) : Segment s t [] [] :=
  ⟨⟨1, steps_one h⟩, hj, ha.symm, hr, hw⟩

/-- A CSR write with its delay. -/
theorem of_wroteCsr {k : Nat} {s : State} {w : Byte} {q : Seq} (h : steps k s = .next ((wroteCsr s w).goto q)) :
    Segment s ((wroteCsr s w).goto q) [] [.csrWrite w] := ⟨⟨k, h⟩, rfl, rfl, rfl, rfl⟩

/-- A DATA write with its delay. -/
theorem of_wroteData {k : Nat} {s : State} {b : Byte} {q : Seq} (h : steps k s = .next ((wroteData s b).goto q)) :
    Segment s ((wroteData s b).goto q) [] [.dataWrite b] := ⟨⟨k, h⟩, rfl, rfl, rfl, rfl⟩

/-- A wait whose first poll is answered with a bit of its mask, and with DATA_REQ if it is classified, uses up that one
answer and goes on to its successor. -/
theorem of_wait {s : State} {m : WMode} {x : Byte} {more : List Byte} (hs : s.setup = false)
    (hm : waitMode s.cfg s.seq = some m) (hp : s.pseq = .pRead) (ha : s.csrAnswers = x :: more) (hx : x &&& m.mask ≠ 0)
    (hreq : m = .req → x &&& 0x10 ≠ 0) :
    ∃ u : State, u.idx = s.idx ∧ Segment s (u.goto (afterWait s.cfg s.seq)) [x] [] := by
  have hview : s.csrView = x := by rw [State.csrView, ha]; rfl
  have hrest : s.csrAnswers = [x] ++ s.csrAnswers.tail := by rw [ha]; rfl
  have hpoll := steps_poll hs hm hp
  rw [← hview] at hx hreq
  by_cases hc : m = .req
  · subst hc
    rw [State.pollStep_req_proceed (s := polled s) rfl hx (hreq rfl)] at hpoll
    exact ⟨{ polled s with r := 0 }, rfl, ⟨3, hpoll⟩, rfl, hrest, rfl, rfl⟩
  · rw [State.pollStep_endWait (s := polled s) rfl hc hx] at hpoll
    exact ⟨polled s, rfl, ⟨3, hpoll⟩, rfl, hrest, rfl, rfl⟩

end Segment

/-! Acceptance and the address phase, of either master command. -/

section accept
variable {s : State} {c : HostCall} {rest : List HostCall} {i : Instr} {op : BitVec 2} {a : DevAddr} {sub : Byte}
  {n : Nat} (hs : s.setup = false) (hq : s.seq = .sIdle) (hc : s.calls = c :: rest)
  (hd : decodeCommand s.cfg.lenW c.word = .ok i) (hi : ∀ u : State, exec i u = u.acceptMaster op a sub n)
  (hn : n ≤ c.offer.buffer.size)
include hs hq hc hd hi hn

/-- A master command with no block reset before it is accepted in one step (10_state R26). -/
theorem step_accept (hr : c.reset = false) : step s = .next { s.present c rest with
    op := op, addr := a, subaddr := sub, len := n, busy := true, seq := .tIrqOff, buf := c.offer.buffer } := by
  rw [step_command hs hq hc hr hd, hi]
  exact State.acceptMaster_idle (s := s.present c rest) op a sub hq hn

/-- A master command is accepted, whether a block reset comes before it or not (10_state R26, 70 R281). -/
theorem steps_accept :
    ∃ k u, steps k s = .next u ∧ u.seq = .tIrqOff
      ∧ jobOf u = { jobOf s with op := op, addr := a, subaddr := sub, len := n, buf := c.offer.buffer, calls := rest }
      ∧ u.csrAnswers = s.csrAnswers ∧ u.csrReads = s.csrReads ∧ u.trace = s.trace := by
  cases hr : c.reset with
  | false => exact ⟨1, _, steps_one (step_accept hs hq hc hd hi hn hr), rfl, rfl, rfl, rfl, rfl⟩
  | true =>
    have haccept := step_accept (s := { s.blockReset with calls := { c with reset := false } :: rest })
      rfl rfl rfl hd hi hn rfl
    exact ⟨2, _, steps_trans (steps_one (step_blockReset hs hq hc hr)) (steps_one haccept), rfl,
      by rw [jobOf, jobOf, hs]; rfl, rfl, rfl, rfl⟩

end accept

/-- The prologue and the address phase: the 10-bit branch uses up one answer, the 7-bit branch none (41 R160 f). -/
theorem segment_addressPhase {s : State} {pre more : List Byte} (hs : s.setup = false) (hq : s.seq = .tIrqOff)
    (hlen : pre.length = if ten s.addr then 1 else 0) (hreq : ∀ x ∈ pre, x &&& 0x10 ≠ 0)
    (ha : s.csrAnswers = pre ++ more) :
    ∃ u : State, Segment s (u.goto (afterAddress s.op)) pre
      ([.csrWrite s.cfg.cwReset] ++ addressWrites s.cfg s.addr) := by
  cases hten : ten s.addr with
  | false =>
    rw [hten] at hlen
    obtain rfl := List.length_eq_zero_iff.1 hlen
    have hrun := sevenBitAddressPhase s hs hq (Nat.not_lt.1 (of_decide_eq_false hten))
    exact ⟨_, ⟨8, hrun⟩, rfl, rfl, rfl, by rw [addressWrites, hten]; rfl⟩
  | true =>
    rw [hten] at hlen
    obtain ⟨x, rfl⟩ := List.length_eq_one_iff.1 hlen
    have hview : s.csrView = x := by rw [State.csrView, ha]; rfl
    have hrun := tenBitAddressPhase s hs hq (of_decide_eq_true hten) (hview ▸ hreq x (List.mem_singleton_self x))
    exact ⟨_, ⟨13, hrun⟩, rfl, by rw [ha]; rfl, rfl, by rw [addressWrites, hten]; rfl⟩

/-! The byte loop (42 R172 to R176). -/

/-- W_LOAD, W_BYTE and W_INC send the byte at IDX and go back to the test. -/
theorem segment_sendByte {s : State} (hs : s.setup = false) (hq : s.seq = .wLoad) (hl : s.idx < s.len)
    (hb : s.idx < s.buf.size) :
    ∃ t, t.seq = .wTest ∧ t.idx = s.idx + 1 ∧ Segment s t [] [.dataWrite (s.buf.read s.idx)] := by
  have hload : Segment s (loaded s) [] [] := .of_step (step_load_of_lt hs hq hl hb) rfl rfl rfl rfl
  have hbyte : Segment (loaded s) ((wroteData (loaded s) (s.buf.read s.idx)).goto .wInc) []
      [.dataWrite (s.buf.read s.idx)] :=
    .of_wroteData (steps_writeData_at (s := loaded s) hs rfl nofun (step_byte hs rfl))
  have hinc := Segment.of_step (step_writeInc (s := (wroteData (loaded s) (s.buf.read s.idx)).goto .wInc) hs rfl)
    rfl rfl rfl rfl
  exact ⟨_, rfl, rfl, hload.trans (hbyte.trans hinc)⟩

/-- One iteration uses up one answer and sends the byte at IDX. -/
theorem segment_iteration {s : State} {x : Byte} {more : List Byte} (hs : s.setup = false) (hq : s.seq = .wTest)
    (hl : s.idx < s.len) (hb : s.len ≤ s.buf.size) (ha : s.csrAnswers = x :: more) (hreq : x &&& 0x10 ≠ 0) :
    ∃ t, t.seq = .wTest ∧ t.idx = s.idx + 1 ∧ Segment s t [x] [.dataWrite (s.buf.read s.idx)] := by
  have htest : Segment s (s.goto .wWait) [] [] :=
    .of_step (by rw [step_writeTest hs hq, if_neg (Nat.ne_of_lt hl)]) rfl rfl rfl rfl
  obtain ⟨u, hidx, hwait⟩ :=
    Segment.of_wait (s := s.goto .wWait) hs rfl rfl ha (awaited_of_dataReq hreq) (fun _ => hreq)
  have hlen : u.len = s.len := congrArg Job.len hwait.job
  have hbuf : u.buf = s.buf := congrArg Job.buf hwait.job
  obtain ⟨t, htq, hti, hsend⟩ := segment_sendByte (s := u.goto .wLoad) ((congrArg Job.setup hwait.job).trans hs) rfl
    (by rw [State.goto_idx, State.goto_len, hidx, hlen]; exact hl)
    (by rw [State.goto_idx, State.goto_buf, hidx, hbuf]; exact hl.trans_le hb)
  rw [State.goto_idx, State.goto_buf, hidx, hbuf] at hsend
  exact ⟨t, htq, hti.trans (congrArg (· + 1) hidx), htest.trans (hwait.trans hsend)⟩

/-- The loop uses up one answer a byte and sends the bytes from IDX on, in order. -/
theorem segment_loop {s : State} {xs more : List Byte} (hs : s.setup = false) (hq : s.seq = .wTest)
    (hl : s.idx + xs.length = s.len) (hb : s.len ≤ s.buf.size) (hreq : ∀ x ∈ xs, x &&& 0x10 ≠ 0)
    (ha : s.csrAnswers = xs ++ more) :
    ∃ t, t.seq = .wTest ∧ t.idx = t.len
      ∧ Segment s t xs ((List.range' s.idx xs.length).map fun i => .dataWrite (s.buf.read i)) := by
  induction xs generalizing s with
  | nil => exact ⟨s, hq, hl, .refl s⟩
  | cons x xs ih =>
    rw [List.length_cons] at hl
    obtain ⟨hx, hxs⟩ := List.forall_mem_cons.1 hreq
    obtain ⟨u, huq, hidx, hfirst⟩ := segment_iteration hs hq (by omega) hb ha hx
    have hlen : u.len = s.len := congrArg Job.len hfirst.job
    have hbuf : u.buf = s.buf := congrArg Job.buf hfirst.job
    have hrest : u.csrAnswers = xs ++ more := List.append_cancel_left (hfirst.answered.symm.trans ha)
    obtain ⟨t, htq, htl, hothers⟩ := ih ((congrArg Job.setup hfirst.job).trans hs) huq (by omega)
      (by rw [hlen, hbuf]; exact hb) hxs hrest
    rw [hidx, hbuf] at hothers
    exact ⟨t, htq, htl, hfirst.trans hothers⟩

/-! The end of the body (42 R177 to R179) and of the transaction (60 R245). -/

/-- W_FWAIT ended by DATA_REQ, at either setting of its switch, and the STOP word. -/
theorem segment_stop {s : State} {x : Byte} {more : List Byte} (hs : s.setup = false) (hq : s.seq = .wTest)
    (hl : s.idx = s.len) (ha : s.csrAnswers = x :: more) (hreq : x &&& 0x10 ≠ 0) :
    ∃ u : State, Segment s (u.goto .wIdle) [x] [.csrWrite s.cfg.cwStopW] := by
  have htest : Segment s (s.goto .wFwait) [] [] :=
    .of_step (by rw [step_writeTest hs hq, if_pos hl]) rfl rfl rfl rfl
  have hmask : x &&& (if s.cfg.finalWaitAborts then WMode.req else .any).mask ≠ 0 := by
    split <;> exact awaited_of_dataReq hreq
  obtain ⟨u, -, hwait⟩ := Segment.of_wait (s := s.goto .wFwait) hs rfl rfl ha hmask (fun _ => hreq)
  have hcfg : u.cfg = s.cfg := congrArg Job.cfg hwait.job
  have hus : u.setup = false := (congrArg Job.setup hwait.job).trans hs
  have hstop := Segment.of_wroteCsr (steps_writeCsr_at (s := u.goto .wStop) hus rfl nofun (step_stop hus rfl))
  rw [State.goto_cfg, hcfg] at hstop
  exact ⟨_, htest.trans (hwait.trans hstop)⟩

/-- W_IDLE ended by IDLE, and T_OK. -/
theorem segment_finish {s : State} {z : Byte} {more : List Byte} (hs : s.setup = false) (hq : s.seq = .wIdle)
    (hp : s.pseq = .pRead) (ha : s.csrAnswers = z :: more) (hz : z &&& 0x80 ≠ 0) :
    ∃ u : State, Segment s (u.finish 0x00) [z] [] := by
  obtain ⟨u, -, hwait⟩ := Segment.of_wait (m := .idle) hs (by rw [hq]; rfl) hp ha hz nofun
  rw [hq] at hwait
  have hok : Segment (u.goto .tOk) ((u.goto .tOk).finish 0x00) [] [] :=
    .of_step (step_ok ((congrArg Job.setup hwait.job).trans hs) rfl) rfl rfl rfl rfl
  exact ⟨_, hwait.trans hok⟩

/-- The write body of a transaction whose waits are answered (42 R171 to R179). -/
theorem segment_writeBody {s : State} {xs more : List Byte} {y z : Byte} (hs : s.setup = false) (hq : s.seq = .wInit)
    (hl : xs.length = s.len) (hb : s.len ≤ s.buf.size) (hxs : ∀ x ∈ xs, x &&& 0x10 ≠ 0) (hy : y &&& 0x10 ≠ 0)
    (hz : z &&& 0x80 ≠ 0) (ha : s.csrAnswers = xs ++ ([y] ++ ([z] ++ more))) :
    ∃ u : State, Segment s (u.finish 0x00) (xs ++ ([y] ++ [z]))
      ((List.range s.len).map (fun i => .dataWrite (s.buf.read i)) ++ [.csrWrite s.cfg.cwStopW]) := by
  have hinit := Segment.of_step (step_writeInit hs hq) rfl rfl rfl rfl
  obtain ⟨t, htq, htl, hloop⟩ := segment_loop (s := ({ s with idx := 0 }).goto .wTest) hs rfl
    ((Nat.zero_add _).trans hl) hb hxs ha
  have hbytes := hinit.trans hloop
  have hcfg : t.cfg = s.cfg := congrArg Job.cfg hbytes.job
  have hat : t.csrAnswers = [y] ++ ([z] ++ more) := List.append_cancel_left (hbytes.answered.symm.trans ha)
  obtain ⟨u, hstop⟩ := segment_stop ((congrArg Job.setup hbytes.job).trans hs) htq htl hat hy
  have hau : u.csrAnswers = [z] ++ more := List.append_cancel_left (hstop.answered.symm.trans hat)
  obtain ⟨v, hfinish⟩ := segment_finish (s := u.goto .wIdle)
    ((congrArg Job.setup (hbytes.trans hstop).job).trans hs) rfl rfl hau hz
  have hrun := hbytes.trans (hstop.trans hfinish)
  rw [hcfg] at hrun
  rw [List.range_eq_range', ← hl]
  exact ⟨v, hrun⟩

/-- The answers of a MASTER_WRITE: those of the address phase, one a byte, and that of W_FWAIT. -/
theorem exists_append_of_length {l : List Byte} {j n : Nat} (h : l.length = j + n + 1) :
    ∃ pre xs y, l = pre ++ (xs ++ [y]) ∧ pre.length = j ∧ xs.length = n := by
  have hone : ((l.drop j).drop n).length = 1 := by simp only [List.length_drop]; omega
  obtain ⟨y, hy⟩ := List.length_eq_one_iff.1 hone
  refine ⟨l.take j, (l.drop j).take n, y, ?_, ?_, ?_⟩
  · rw [← hy, List.take_append_drop, List.take_append_drop]
  · rw [List.length_take]; omega
  · rw [List.length_take, List.length_drop]; omega

/-- A MASTER_WRITE from its acceptance to its end (42 R170, R183). -/
theorem segment_masterWrite {s : State} {answers more : List Byte} {z : Byte} (hs : s.setup = false)
    (hq : s.seq = .tIrqOff) (hop : s.op = 1) (hb : s.len ≤ s.buf.size)
    (hlen : answers.length = (if ten s.addr then 1 else 0) + s.len + 1) (hreq : ∀ x ∈ answers, x &&& 0x10 ≠ 0)
    (hz : z &&& 0x80 ≠ 0) (ha : s.csrAnswers = answers ++ z :: more) :
    ∃ u : State, Segment s (u.finish 0x00) (answers ++ [z]) (masterWriteWrites s.cfg s.addr s.len s.buf) := by
  obtain ⟨pre, xs, y, rfl, hpre, hxs⟩ := exists_append_of_length hlen
  simp only [List.forall_mem_append, List.forall_mem_singleton] at hreq
  obtain ⟨hreqPre, hreqXs, hreqY⟩ := hreq
  have hlist : s.csrAnswers = pre ++ (xs ++ ([y] ++ ([z] ++ more))) := by simp [ha]
  obtain ⟨u, haddr⟩ := segment_addressPhase hs hq hpre hreqPre hlist
  rw [hop] at haddr
  have hcfg : u.cfg = s.cfg := congrArg Job.cfg haddr.job
  have hul : u.len = s.len := congrArg Job.len haddr.job
  have hub : u.buf = s.buf := congrArg Job.buf haddr.job
  have hua : u.csrAnswers = xs ++ ([y] ++ ([z] ++ more)) := List.append_cancel_left (haddr.answered.symm.trans hlist)
  obtain ⟨v, hbody⟩ := segment_writeBody (s := u.goto .wInit) ((congrArg Job.setup haddr.job).trans hs) rfl
    (hxs.trans hul.symm) (by rw [State.goto_len, State.goto_buf, hul, hub]; exact hb) hreqXs hreqY hz hua
  rw [State.goto_len, State.goto_buf, State.goto_cfg, hul, hub, hcfg] at hbody
  have hrun := haddr.trans hbody
  exact ⟨v, by simpa [masterWriteWrites] using hrun⟩

/-- Settles O59: the command is accepted, with or without a block reset before it, and runs to its end. -/
theorem masterWriteSucceeds : Obligations.MasterWriteSucceeds := by
  intro s c rest a sub n answers more z hs hq hc hd hn hreq hlen hz ha
  obtain ⟨j, u, haccept, huq, hjob, hanswers, hreads, htrace⟩ := steps_accept hs hq hc hd (fun _ => rfl) hn
  have hcfg : u.cfg = s.cfg := congrArg Job.cfg hjob
  have hbuf : u.buf = c.offer.buffer := congrArg Job.buf hjob
  obtain rfl : u.addr = a := congrArg Job.addr hjob
  obtain rfl : u.len = n := congrArg Job.len hjob
  obtain ⟨v, hrun⟩ := segment_masterWrite ((congrArg Job.setup hjob).trans hs) huq (congrArg Job.op hjob)
    (hbuf ▸ hn) hlen hreq hz (hanswers.trans ha)
  obtain ⟨k, hk⟩ := hrun.reached
  have hend := hrun.job.trans hjob
  have hmore : answers ++ z :: more = answers ++ z :: (v.finish 0x00).csrAnswers := by
    rw [← ha, ← hanswers, hrun.answered, List.append_assoc, List.singleton_append]
  have hwritten := hrun.written
  rw [hcfg, hbuf, htrace] at hwritten
  refine ⟨j + k, v.finish 0x00, steps_trans haccept hk, rfl, rfl, rfl, rfl, congrArg Job.buf hend,
    congrArg Job.calls hend, ?_, ?_, congrArg Job.dataReads hend, hwritten⟩
  · exact (List.cons.inj (List.append_cancel_left hmore)).2.symm
  · rw [hrun.reads, hreads, List.length_append, List.length_singleton, Nat.add_assoc]

end Sys2Proof.Safety
end

section
/-! The states of the read body that handle one byte: R_POLL, R_LSTOP and R_CHECK in both readings of 43 R203, and
R_FETCH to R_INC (43 R202 to R208). -/

namespace Sys2Proof.Safety

open Sys2Proof.Machine

/-- R_STORE at an index of BUF (43 R206). -/
theorem step_store_of_lt {s : State} (hs : s.setup = false) (hq : s.seq = .rStore) (hl : s.idx < s.len)
    (hb : s.idx < s.buf.size) : step s = .next { s with
      buf := s.buf.write s.idx s.v, trace := .bufWrite s.idx s.v :: s.trace, seq := .rDummy } := by
  rw [step_store hs hq, stepStore, if_pos ((s.bufIndexOk_iff s.idx).2 ⟨hl, hb⟩)]
  rfl

/-- Settles O44, by the laws of a buffer's write. -/
theorem storeWritesOneByte : Obligations.StoreWritesOneByte := fun s hs hq hl hb =>
  ⟨s.buf.write s.idx s.v, step_store_of_lt hs hq hl hb, s.buf.read_write_same s.idx s.v,
    fun _ hj => s.buf.read_write_other s.v hj, rfl, fun hwf => Buffer.wf_write s.v hwf hb⟩

/-- R_POLL answered with DATA_READY or IDLE goes on after one poll (43 R202). -/
theorem steps_readPoll {s : State} (hs : s.setup = false) (hq : s.seq = .rPoll) (hp : s.pseq = .pRead)
    (hx : s.csrView &&& 0xA0 ≠ 0) : steps 3 s = .next ((polled s).goto (afterWait s.cfg .rPoll)) := by
  rw [steps_poll (m := .rdy) hs (by rw [hq]; rfl) hp, State.pollStep_endWait (m := .rdy) (s := polled s) rfl nofun hx,
    State.endWait, show (polled s).seq = .rPoll from hq]
  rfl

/-- R_LSTOP at the final byte writes the STOP word (43 R203). -/
theorem steps_lastStop {s : State} (hs : s.setup = false) (hq : s.seq = .rLstop) (hl : s.idx + 1 = s.len) :
    steps 2 s = .next ((wroteCsr s s.cfg.cwStopR).goto (afterLstop s.cfg)) :=
  steps_writeCsr_at hs hq nofun (step_lastStop hs hq hl)

/-- R_CHECK with IDLE and NO_ACK clear takes the byte (43 R204). -/
theorem step_check_accept {s : State} (hs : s.setup = false) (hq : s.seq = .rCheck) (hx : s.t &&& 0xC0 = 0) :
    step s = .next (s.goto .rFetch) := by
  have hpass : checkFails s.t = false := bne_eq_false_iff_eq.2 hx
  rw [step_check hs hq, State.checkSnapshot, hpass, if_neg Bool.false_ne_true]

/-- R_CHECK with IDLE or NO_ACK set ends the command with the snapshot in RET (43 R204, 60 R246). -/
theorem steps_check_abort {s : State} (hs : s.setup = false) (hq : s.seq = .rCheck) (hx : s.t &&& 0xC0 ≠ 0) :
    steps 2 s = .next ((s.raiseAbort .t).finish s.t) := by
  have hfail : checkFails s.t = true := bne_iff_ne.2 hx
  have hcheck : step s = .next (s.raiseAbort .t) := by
    rw [step_check hs hq, State.checkSnapshot, if_pos hfail]
  exact steps_trans (steps_one hcheck) (steps_one (step_abort (s := s.raiseAbort .t) hs rfl))

/-- Settles O58: the STOP word, with the switch on the poll after it, then the abort of R_CHECK. -/
theorem finalByteAbortFollowsStop : Obligations.FinalByteAbortFollowsStop := by
  intro s x hs hq hl hx hcase
  have hstop := steps_lastStop hs hq hl
  obtain ⟨hsw, rfl⟩ | ⟨hsw, rfl, hready⟩ := hcase
  · rw [afterLstop, hsw] at hstop
    have habort := steps_check_abort (s := (wroteCsr s s.cfg.cwStopR).goto .rCheck) hs rfl hx
    rw [hsw]
    exact ⟨_, steps_trans hstop habort, rfl, rfl, rfl, rfl, rfl, rfl, rfl, rfl⟩
  · rw [afterLstop, hsw] at hstop
    have hpoll := steps_readPoll (s := (wroteCsr s s.cfg.cwStopR).goto .rPoll) hs rfl rfl hready
    rw [afterWait, State.goto_cfg, show (wroteCsr s s.cfg.cwStopR).cfg = s.cfg from rfl, hsw] at hpoll
    have habort := steps_check_abort (s := (polled ((wroteCsr s s.cfg.cwStopR).goto .rPoll)).goto .rCheck) hs rfl hx
    rw [hsw]
    exact ⟨_, steps_trans hstop (steps_trans hpoll habort), rfl, rfl, rfl, rfl, rfl, rfl, rfl, rfl⟩

end Sys2Proof.Safety
end

section
/-! The bytes of a buffer after several of them were stored one after the other (43 R206). -/

namespace Sys2Proof.Machine

/-- A buffer with bytes stored in order from index i on. -/
def Buffer.writeFrom (b : Buffer) (i : Nat) : List Byte → Buffer
  | [] => b
  | x :: xs => (b.write i x).writeFrom (i + 1) xs

/-- The bytes stored stand in order from index i on, every other byte reads as before. -/
theorem Buffer.read_writeFrom (b : Buffer) (i j : Nat) (xs : List Byte) :
    (b.writeFrom i xs).read j = if i ≤ j ∧ j < i + xs.length then xs.getD (j - i) 0 else b.read j := by
  induction xs generalizing b i with
  | nil => exact (if_neg (by rw [List.length_nil]; omega)).symm
  | cons x xs ih =>
    rw [writeFrom, ih, List.length_cons]
    obtain hlt | rfl | hgt := Nat.lt_trichotomy j i
    · rw [if_neg (by omega), if_neg (by omega), read_write_other b x (by omega)]
    · rw [if_neg (by omega), if_pos (by omega), read_write_same, Nat.sub_self, List.getD_cons_zero]
    · have hsub : j - i = j - (i + 1) + 1 := by omega
      rw [read_write_other b x (by omega), hsub, List.getD_cons_succ]
      exact if_congr (by omega) rfl rfl

end Sys2Proof.Machine
end

section
/-! Passages: how the ENGINE gets from a state of SEQ, with a job in hand and IDX at a value, to another, which CSR
answers it uses up and which registers it writes on the way. Put end to end they make up the read body, in which the job
changes: the buffer fills up (43 R206). -/

namespace Sys2Proof.Safety

open Sys2Proof.Machine

/-- A state of SEQ, the job in hand and the value of IDX. -/
structure Moment where
  seq : Seq
  job : Job
  idx : Nat

/-- The ENGINE is at a moment; in a waiting state the first poll is to be made (40 R131). -/
structure At (m : Moment) (s : State) : Prop where
  seq : s.seq = m.seq
  poll : isWaiting s.cfg s.seq = true → s.pseq = .pRead
  job : jobOf s = m.job
  idx : s.idx = m.idx

theorem at_goto (u : State) (q : Seq) : At ⟨q, jobOf u, u.idx⟩ (u.goto q) := ⟨rfl, fun h => if_pos h, rfl, rfl⟩

/-- A run leads from s to t, reading exactly the CSR answers listed and making exactly the register writes listed
(oldest first); the job may change. -/
structure Traffic (s t : State) (answers : List Byte) (writes : List Action) : Prop where
  reached : ∃ k, steps k s = .next t
  answered : s.csrAnswers = answers ++ t.csrAnswers
  reads : t.csrReads = s.csrReads + answers.length
  written : regWrites t.trace = writes.reverse ++ regWrites s.trace

theorem Segment.traffic {s t : State} {as : List Byte} {ws : List Action} (h : Segment s t as ws) : Traffic s t as ws :=
  ⟨h.reached, h.answered, h.reads, h.written⟩

namespace Traffic
variable {s t u : State} {as bs more : List Byte} {ws xs : List Action}

theorem trans (h : Traffic s t as ws) (h' : Traffic t u bs xs) : Traffic s u (as ++ bs) (ws ++ xs) where
  reached := by
    obtain ⟨j, hj⟩ := h.reached
    obtain ⟨k, hk⟩ := h'.reached
    exact ⟨j + k, steps_trans hj hk⟩
  answered := by rw [h.answered, h'.answered, List.append_assoc]
  reads := by rw [h'.reads, h.reads, List.length_append, Nat.add_assoc]
  written := by rw [h'.written, h.written, List.reverse_append, List.append_assoc]

theorem remaining (h : Traffic s t as ws) (ha : s.csrAnswers = as ++ more) : t.csrAnswers = more :=
  List.append_cancel_left (h.answered.symm.trans ha)

end Traffic

/-- From one moment the ENGINE passes on to another, whatever else its state, if the answers listed come next. -/
def Passage (m m' : Moment) (answers : List Byte) (writes : List Action) : Prop :=
  ∀ (s : State) (more : List Byte), At m s → s.csrAnswers = answers ++ more → ∃ t, At m' t ∧ Traffic s t answers writes

namespace Passage
variable {j : Job} {q q' : Seq} {i : Nat}

theorem trans {m m' m'' : Moment} {as bs : List Byte} {ws xs : List Action} (h : Passage m m' as ws)
    (h' : Passage m' m'' bs xs) : Passage m m'' (as ++ bs) (ws ++ xs) := by
  intro s more hat ha
  rw [List.append_assoc] at ha
  obtain ⟨t, hatt, hfirst⟩ := h s (bs ++ more) hat ha
  obtain ⟨u, hatu, hsecond⟩ := h' t more hatt (hfirst.remaining ha)
  exact ⟨u, hatu, hfirst.trans hsecond⟩

theorem refl (m : Moment) : Passage m m [] [] := fun s _ hat _ => ⟨s, hat, ⟨0, rfl⟩, rfl, rfl, rfl⟩

/-- A segment keeps the job. -/
theorem of_segment {as : List Byte} {ws : List Action}
    (h : ∀ s more, At ⟨q, j, i⟩ s → s.csrAnswers = as ++ more → ∃ u : State, u.idx = i ∧ Segment s (u.goto q') as ws) :
    Passage ⟨q, j, i⟩ ⟨q', j, i⟩ as ws := by
  intro s more hat ha
  obtain ⟨u, rfl, hseg⟩ := h s more hat ha
  obtain rfl : jobOf u = j := hseg.job.trans hat.job
  exact ⟨_, at_goto u q', hseg.traffic⟩

section states
variable (hs : j.setup = false)
include hs

/-- A wait whose first poll ends it, with DATA_REQ if it is classified. -/
theorem of_wait {w : WMode} {x : Byte} (hm : waitMode j.cfg q = some w) (hx : x &&& w.mask ≠ 0)
    (hreq : w = .req → x &&& 0x10 ≠ 0) : Passage ⟨q, j, i⟩ ⟨afterWait j.cfg q, j, i⟩ [x] [] := by
  refine of_segment fun s more ⟨hq, hpoll, hj, hi⟩ ha => ?_
  subst hj hq hi
  exact Segment.of_wait hs hm (hpoll (Option.isSome_iff_exists.2 ⟨w, hm⟩)) ha hx hreq

/-- A state that writes the CSR, with its delay. -/
theorem of_writeCsr {w : Byte} (hq : q ≠ .slPass) (h : ∀ s, At ⟨q, j, i⟩ s → step s = .next (s.writeCsr w)) :
    Passage ⟨q, j, i⟩ ⟨afterSetup j.cfg j.op q, j, i⟩ [] [.csrWrite w] := by
  refine of_segment fun s _ hat _ => ?_
  have hstep := h s hat
  obtain ⟨hseq, -, rfl, rfl⟩ := hat
  exact ⟨wroteCsr s w, rfl, .of_wroteCsr (steps_writeCsr_at hs hseq hq hstep)⟩

/-- A state that writes the DATA register, with its delay. -/
theorem of_writeData {b : Byte} (hq : q ≠ .slPass) (h : ∀ s, At ⟨q, j, i⟩ s → step s = .next (s.writeData b)) :
    Passage ⟨q, j, i⟩ ⟨afterSetup j.cfg j.op q, j, i⟩ [] [.dataWrite b] := by
  refine of_segment fun s _ hat _ => ?_
  have hstep := h s hat
  obtain ⟨hseq, -, rfl, rfl⟩ := hat
  exact ⟨wroteData s b, rfl, .of_wroteData (steps_writeData_at hs hseq hq hstep)⟩

end states

end Passage

end Sys2Proof.Safety
end

section
/-! One byte of the read loop: its snapshot, its STOP word if it is the final one, and its way into the buffer, in both
readings of 43 R203. -/

namespace Sys2Proof.Safety

open Sys2Proof.Machine

/-- The register writes of R_LSTOP with m bytes to come after this one (43 R203). -/
def lastStopWrites (c : Config) (m : Nat) : List Action := if m = 0 then [.csrWrite c.cwStopR] else []

/-- The loop's register writes, byte by byte (43 R213). -/
theorem readLoopWrites_succ (c : Config) (m : Nat) :
    readLoopWrites c (m + 1) = lastStopWrites c m ++ ([.dataWrite 0x00] ++ readLoopWrites c m) := by
  cases m with
  | zero => rfl
  | succ m => rfl

/-- A snapshot that is accepted ends the poll of R_POLL (43 R202, R204). -/
theorem ready_of_accepted {x : Byte} (h : x &&& 0xE0 = 0x20) : x &&& 0xA0 ≠ 0 := by
  revert x; decide

/-- A snapshot that is accepted passes R_CHECK (43 R204). -/
theorem passes_of_accepted {x : Byte} (h : x &&& 0xE0 = 0x20) : x &&& 0xC0 = 0 := by
  revert x; decide

section states
variable {s : State} {j : Job} (hj : jobOf s = j) (hs : j.setup = false)
include hj hs

/-- R_LSTOP with m bytes to come after this one (43 R203). -/
theorem segment_lastStop {m : Nat} (hq : s.seq = .rLstop) (hl : s.idx + 1 + m = j.len) :
    ∃ u : State, u.idx = s.idx ∧ u.t = s.t ∧ Segment s (u.goto (afterLstop j.cfg)) [] (lastStopWrites j.cfg m) := by
  subst hj
  cases m with
  | zero => exact ⟨wroteCsr s s.cfg.cwStopR, rfl, rfl, .of_wroteCsr (steps_lastStop hs hq hl)⟩
  | succ m =>
    have hnot : s.idx + 1 ≠ s.len := fun h => absurd (h.trans hl.symm) (by omega)
    exact ⟨s, rfl, rfl, .of_step (step_notLast hs hq hnot) rfl rfl rfl rfl⟩

/-- R_POLL ended by its first answer, which is then in T (43 R202). -/
theorem segment_readPoll {x : Byte} {more : List Byte} (hq : s.seq = .rPoll) (hp : s.pseq = .pRead)
    (ha : s.csrAnswers = x :: more) (hx : x &&& 0xA0 ≠ 0) :
    ∃ u : State, u.idx = s.idx ∧ u.t = x ∧ Segment s (u.goto (afterWait j.cfg .rPoll)) [x] [] := by
  subst hj
  have hview : s.csrView = x := by rw [State.csrView, ha]; rfl
  have hrest : s.csrAnswers = [x] ++ s.csrAnswers.tail := by rw [ha]; rfl
  exact ⟨polled s, rfl, hview, ⟨3, steps_readPoll hs hq hp (hview ▸ hx)⟩, rfl, hrest, rfl, rfl⟩

/-- R_CHECK takes the byte (43 R204). -/
theorem segment_check (hq : s.seq = .rCheck) (hx : s.t &&& 0xC0 = 0) : Segment s (s.goto .rFetch) [] [] := by
  subst hj
  exact .of_step (step_check_accept hs hq hx) rfl rfl rfl rfl

/-- R_TEST to R_FETCH: the poll comes before R_LSTOP or, with the switch on, after it (43 R201 to R204). -/
theorem segment_acceptByte {x : Byte} {more : List Byte} {m : Nat} (hq : s.seq = .rTest) (hl : s.idx + 1 + m = j.len)
    (ha : s.csrAnswers = x :: more) (hx : x &&& 0xE0 = 0x20) :
    ∃ u : State, u.idx = s.idx ∧ Segment s (u.goto .rFetch) [x] (lastStopWrites j.cfg m) := by
  have hne : s.idx ≠ s.len := by rw [show s.len = j.len from congrArg Job.len hj]; omega
  have hcfg : s.cfg = j.cfg := congrArg Job.cfg hj
  have hready := ready_of_accepted hx
  have hpass := passes_of_accepted hx
  have htest := step_readTest ((congrArg Job.setup hj).trans hs) hq
  rw [if_neg hne, hcfg] at htest
  cases hsw : j.cfg.lastStopBeforePoll with
  | false =>
    rw [hsw] at htest
    have hgo : Segment s (s.goto .rPoll) [] [] := .of_step htest rfl rfl rfl rfl
    obtain ⟨u, hui, rfl, hpoll⟩ := segment_readPoll (s := s.goto .rPoll) hj hs rfl rfl ha hready
    rw [afterWait, hsw, if_neg Bool.false_ne_true] at hpoll
    obtain ⟨v, hvi, hvt, hstop⟩ := segment_lastStop (s := u.goto .rLstop) (hpoll.job.trans hj) hs rfl (hui ▸ hl)
    rw [afterLstop, hsw, if_neg Bool.false_ne_true] at hstop
    have hcheck := segment_check (s := v.goto .rCheck) (hstop.job.trans (hpoll.job.trans hj)) hs rfl (hvt ▸ hpass)
    have hrun := hgo.trans (hpoll.trans (hstop.trans hcheck))
    simp only [List.append_nil, List.nil_append] at hrun
    exact ⟨v.goto .rCheck, hvi.trans hui, hrun⟩
  | true =>
    rw [hsw] at htest
    have hgo : Segment s (s.goto .rLstop) [] [] := .of_step htest rfl rfl rfl rfl
    obtain ⟨u, hui, -, hstop⟩ := segment_lastStop (s := s.goto .rLstop) hj hs rfl hl
    rw [afterLstop, hsw, if_pos rfl] at hstop
    have hau : u.csrAnswers = x :: more := hstop.answered.symm.trans ha
    obtain ⟨v, hvi, rfl, hpoll⟩ := segment_readPoll (s := u.goto .rPoll) (hstop.job.trans hj) hs rfl rfl hau hready
    rw [afterWait, hsw, if_pos rfl] at hpoll
    have hcheck := segment_check (s := v.goto .rCheck) (hpoll.job.trans (hstop.job.trans hj)) hs rfl hpass
    have hrun := hgo.trans (hstop.trans (hpoll.trans hcheck))
    simp only [List.append_nil, List.nil_append] at hrun
    exact ⟨v.goto .rCheck, hvi.trans hui, hrun⟩

end states

/-- A job with bytes received from index i on: they stand in the buffer and are no longer to be answered. -/
def Job.receive (j : Job) (i : Nat) (bytes : List Byte) : Job :=
  { j with
    buf := j.buf.writeFrom i bytes
    dataAnswers := j.dataAnswers.drop bytes.length
    dataReads := j.dataReads + bytes.length }

theorem Job.receive_cons (j : Job) (i : Nat) (b : Byte) (bytes : List Byte) :
    j.receive i (b :: bytes) = (j.receive i [b]).receive (i + 1) bytes := by
  simp [Job.receive, Buffer.writeFrom, Nat.add_comm, Nat.add_assoc]

/-- R_FETCH and R_STORE have taken a byte into the buffer (43 R205, R206). -/
def received (s : State) : State :=
  { s.readData with
    buf := s.buf.write s.idx s.dataView, trace := .bufWrite s.idx s.dataView :: s.readData.trace, seq := .rDummy }

/-- R_FETCH and R_STORE at an index of BUF, R_DUMMY and R_INC (43 R205 to R208). -/
theorem steps_takeByte {s : State} (hs : s.setup = false) (hq : s.seq = .rFetch) (hl : s.idx < s.len)
    (hb : s.idx < s.buf.size) :
    steps 5 s = .next (({ wroteData (received s) 0x00 with idx := s.idx + 1 }).goto .rTest) := by
  have hstore : step (s.readData.goto .rStore) = .next (received s) :=
    step_store_of_lt (s := s.readData.goto .rStore) hs rfl hl hb
  have hdummy : steps 2 (received s) = .next ((wroteData (received s) 0x00).goto .rInc) :=
    steps_writeData_at (s := received s) hs rfl nofun (step_dummy hs rfl)
  have hinc := steps_one (step_readInc (s := (wroteData (received s) 0x00).goto .rInc) hs rfl)
  exact steps_trans (steps_one (step_fetch hs hq)) (steps_trans (steps_one hstore) (steps_trans hdummy hinc))

namespace Passage
variable {j : Job} {i : Nat}

/-- The byte answered next is taken into the buffer (43 R205 to R208). -/
theorem takeByte {b : Byte} {rest : List Byte} (hs : j.setup = false) (hl : i < j.len) (hb : i < j.buf.size)
    (hd : j.dataAnswers = b :: rest) :
    Passage ⟨.rFetch, j, i⟩ ⟨.rTest, j.receive i [b], i + 1⟩ [] [.dataWrite 0x00] := by
  rintro s more ⟨hq, -, rfl, rfl⟩ ha
  have hview : s.dataView = b := by rw [State.dataView, show s.dataAnswers = b :: rest from hd]; rfl
  have hjob : jobOf (wroteData (received s) 0x00) = (jobOf s).receive s.idx [b] := by
    rw [← hview]
    simp [jobOf, Job.receive, wroteData, received, Buffer.writeFrom]
  refine ⟨_, ?_, ⟨5, steps_takeByte hs hq hl hb⟩, rfl, rfl, rfl⟩
  rw [← hjob]
  exact at_goto { wroteData (received s) 0x00 with idx := s.idx + 1 } .rTest

/-- One byte of the loop, with m bytes to come after it. -/
theorem readByte {x b : Byte} {rest : List Byte} {m : Nat} (hs : j.setup = false) (hl : i + 1 + m = j.len)
    (hb : j.len ≤ j.buf.size) (hx : x &&& 0xE0 = 0x20) (hd : j.dataAnswers = b :: rest) :
    Passage ⟨.rTest, j, i⟩ ⟨.rTest, j.receive i [b], i + 1⟩ [x] (lastStopWrites j.cfg m ++ [.dataWrite 0x00]) := by
  have haccept : Passage ⟨.rTest, j, i⟩ ⟨.rFetch, j, i⟩ [x] (lastStopWrites j.cfg m) := by
    refine of_segment fun s more ⟨hq, _, hj, hi⟩ ha => ?_
    subst hi
    exact segment_acceptByte hj hs hq hl ha hx
  exact haccept.trans (takeByte hs (by omega) (by omega) hd)

/-- The loop uses up one CSR answer and one DATA answer a byte (43 R201 to R208, R213). -/
theorem readLoop {polls data rest : List Byte} (hs : j.setup = false) (hl : i + data.length = j.len)
    (hb : j.len ≤ j.buf.size) (hlen : polls.length = data.length) (hpolls : ∀ x ∈ polls, x &&& 0xE0 = 0x20)
    (hd : j.dataAnswers = data ++ rest) :
    Passage ⟨.rTest, j, i⟩ ⟨.rTest, j.receive i data, j.len⟩ polls (readLoopWrites j.cfg data.length) := by
  induction data generalizing j i polls with
  | nil =>
    obtain rfl := List.length_eq_zero_iff.1 hlen
    obtain rfl : i = j.len := hl
    exact refl _
  | cons b data ih =>
    obtain ⟨x, polls, rfl⟩ := List.exists_cons_of_length_eq_add_one hlen
    obtain ⟨hx, hothers⟩ := List.forall_mem_cons.1 hpolls
    have hnext : i + 1 + data.length = j.len := (Nat.add_right_comm ..).trans hl
    have hbyte := readByte hs hnext hb hx hd
    have hrest := ih (j := j.receive i [b]) (i := i + 1) hs hnext hb
      (Nat.succ.inj hlen) hothers (by rw [Job.receive, hd]; rfl)
    rw [j.receive_cons, List.length_cons, readLoopWrites_succ, ← List.append_assoc]
    exact hbyte.trans hrest

end Passage

end Sys2Proof.Safety
end

section
/-! A whole MASTER_READ (43 R190, R214): acceptance, the address phase, and the passages of the read body to T_OK. -/

namespace Sys2Proof.Safety

open Sys2Proof.Machine

/-- The register writes of the read body before its byte loop, oldest first (43 R192 to R198). -/
def readStartWrites (c : Config) (a : DevAddr) (sub : Byte) : List Action :=
  [.dataWrite sub, .dataWrite (if ten a then hdrR a else addrR a), .csrWrite c.cwPivot, .csrWrite c.cwStartR]

theorem masterReadWrites_eq (c : Config) (a : DevAddr) (sub : Byte) (n : Nat) :
    masterReadWrites c a sub n
      = ([.csrWrite c.cwReset] ++ addressWrites c a) ++ (readStartWrites c a sub ++ readLoopWrites c n) := by
  simp [masterReadWrites, readStartWrites]

namespace Passage
variable {j : Job} {i : Nat} (hs : j.setup = false)
include hs

/-! The five states between the waits write one register each. -/

theorem sub : Passage ⟨.rSub, j, i⟩ ⟨.rWait2, j, i⟩ [] [.dataWrite j.subaddr] := by
  refine of_writeData hs nofun fun s ⟨hq, _, hj, _⟩ => ?_
  subst hj
  exact step_sub hs hq

theorem readdr :
    Passage ⟨.rReaddr, j, i⟩ ⟨.rPivot, j, i⟩ [] [.dataWrite (if ten j.addr then hdrR j.addr else addrR j.addr)] := by
  refine of_writeData hs nofun fun s ⟨hq, _, hj, _⟩ => ?_
  subst hj
  rw [hdrR_eq, addrR_eq]
  exact step_readdr hs hq

theorem pivot : Passage ⟨.rPivot, j, i⟩ ⟨.rPidle, j, i⟩ [] [.csrWrite j.cfg.cwPivot] := by
  refine of_writeCsr hs nofun fun s ⟨hq, _, hj, _⟩ => ?_
  subst hj
  exact step_pivot hs hq

theorem startR : Passage ⟨.rStart, j, i⟩ ⟨.rWait3, j, i⟩ [] [.csrWrite j.cfg.cwStartR] := by
  refine of_writeCsr hs nofun fun s ⟨hq, _, hj, _⟩ => ?_
  subst hj
  exact step_startR hs hq

theorem readInit : Passage ⟨.rInit, j, i⟩ ⟨.rTest, j, 0⟩ [] [] := by
  rintro s more ⟨hq, -, rfl, -⟩ ha
  exact ⟨_, at_goto { s with idx := 0 } .rTest, ⟨1, steps_one (step_readInit hs hq)⟩, rfl, rfl, rfl⟩

theorem readTest_done : Passage ⟨.rTest, j, j.len⟩ ⟨.rIdle, j, j.len⟩ [] [] := by
  refine of_segment fun s more ⟨hq, _, hj, hi⟩ ha => ?_
  subst hj
  have hdone : s.idx = s.len := hi
  exact ⟨s, hi, .of_step (by rw [step_readTest hs hq, if_pos hdone]) rfl rfl rfl rfl⟩

/-- A classified wait answered with DATA_REQ at once. -/
theorem classified {q : Seq} {x : Byte} (hm : waitMode j.cfg q = some .req) (hx : x &&& 0x10 ≠ 0) :
    Passage ⟨q, j, i⟩ ⟨afterWait j.cfg q, j, i⟩ [x] [] :=
  of_wait hs hm (awaited_of_dataReq hx) fun _ => hx

/-- A wait for IDLE answered with it at once. -/
theorem idle {q : Seq} {x : Byte} (hm : waitMode j.cfg q = some .idle) (hx : x &&& 0x80 ≠ 0) :
    Passage ⟨q, j, i⟩ ⟨afterWait j.cfg q, j, i⟩ [x] [] :=
  of_wait hs hm hx nofun

/-- From the address phase to the byte loop (43 R191 to R200). -/
theorem readStart {x y p q : Byte} (hx : x &&& 0x10 ≠ 0) (hy : y &&& 0x10 ≠ 0) (hp : p &&& 0x80 ≠ 0)
    (hq : q &&& 0x10 ≠ 0) :
    Passage ⟨.rWait1, j, i⟩ ⟨.rTest, j, 0⟩ [x, y, p, q] (readStartWrites j.cfg j.addr j.subaddr) :=
  (classified hs rfl hx).trans <| (sub hs).trans <| (classified hs rfl hy).trans <| (readdr hs).trans <|
    (pivot hs).trans <| (idle hs rfl hp).trans <| (startR hs).trans <| (classified hs rfl hq).trans <| readInit hs

/-- The read body of a transaction whose waits are answered (43 R191 to R209). -/
theorem readBody {x y p q z : Byte} {polls data rest : List Byte} (hx : x &&& 0x10 ≠ 0) (hy : y &&& 0x10 ≠ 0)
    (hp : p &&& 0x80 ≠ 0) (hq : q &&& 0x10 ≠ 0) (hpolls : ∀ x ∈ polls, x &&& 0xE0 = 0x20) (hz : z &&& 0x80 ≠ 0)
    (hlen : polls.length = j.len) (hl : data.length = j.len) (hb : j.len ≤ j.buf.size)
    (hd : j.dataAnswers = data ++ rest) :
    Passage ⟨.rWait1, j, i⟩ ⟨.tOk, j.receive 0 data, j.len⟩ ([x, y, p, q] ++ (polls ++ [z]))
      (readStartWrites j.cfg j.addr j.subaddr ++ readLoopWrites j.cfg j.len) := by
  have hloop := readLoop hs ((Nat.zero_add _).trans hl) hb (hlen.trans hl.symm) hpolls hd
  have hend := (readTest_done (j := j.receive 0 data) hs).trans (idle (j := j.receive 0 data) hs rfl hz)
  have hbody := (readStart hs (i := i) hx hy hp hq).trans (hloop.trans hend)
  rw [hl, List.append_nil, List.append_nil] at hbody
  exact hbody

end Passage

/-- A MASTER_READ from its acceptance to its end (43 R190, R214). -/
theorem traffic_masterRead {s : State} {pre polls data more rest : List Byte} {p q z : Byte} (hs : s.setup = false)
    (hq : s.seq = .tIrqOff) (hop : s.op = 2) (hb : s.len ≤ s.buf.size)
    (hlen : pre.length = (if ten s.addr then 1 else 0) + 2) (hpre : ∀ x ∈ pre, x &&& 0x10 ≠ 0)
    (hp : p &&& 0x80 ≠ 0) (hreq : q &&& 0x10 ≠ 0) (hpolls : ∀ x ∈ polls, x &&& 0xE0 = 0x20) (hz : z &&& 0x80 ≠ 0)
    (hpl : polls.length = s.len) (hl : data.length = s.len) (hd : s.dataAnswers = data ++ rest)
    (ha : s.csrAnswers = (pre ++ p :: q :: (polls ++ [z])) ++ more) :
    ∃ u : State, jobOf u = (jobOf s).receive 0 data
      ∧ Traffic s (u.finish 0x00) (pre ++ p :: q :: (polls ++ [z]))
        (masterReadWrites s.cfg s.addr s.subaddr s.len) := by
  obtain ⟨addressed, ys, y, rfl, haddrLen, hys⟩ := exists_append_of_length (n := 1) hlen
  obtain ⟨x, rfl⟩ := List.length_eq_one_iff.1 hys
  simp only [List.forall_mem_append, List.forall_mem_singleton] at hpre
  obtain ⟨haddrReq, hx, hy⟩ := hpre
  have hlist : s.csrAnswers = addressed ++ (([x, y, p, q] ++ (polls ++ [z])) ++ more) := by simp [ha]
  obtain ⟨u, haddr⟩ := segment_addressPhase hs hq haddrLen haddrReq hlist
  rw [hop] at haddr
  have hat : At ⟨.rWait1, jobOf s, u.idx⟩ (u.goto .rWait1) := by
    rw [← haddr.job]
    exact at_goto u .rWait1
  obtain ⟨v, ⟨hvq, -, hvj, -⟩, hbody⟩ :=
    Passage.readBody hs hx hy hp hreq hpolls hz hpl hl hb hd _ more hat (haddr.traffic.remaining hlist)
  have hok : Segment v (v.finish 0x00) [] [] :=
    .of_step (step_ok ((congrArg Job.setup hvj).trans hs) hvq) rfl rfl rfl rfl
  have hrun := haddr.traffic.trans (hbody.trans hok.traffic)
  have hanswers : addressed ++ ([x] ++ [y]) ++ p :: q :: (polls ++ [z])
      = addressed ++ ([x, y, p, q] ++ (polls ++ [z])) := by simp
  rw [List.append_nil, List.append_nil] at hrun
  rw [hanswers, masterReadWrites_eq]
  exact ⟨v, hvj, hrun⟩

/-- Settles O60: the command is accepted, with or without a block reset before it, and runs to its end. -/
theorem masterReadSucceeds : Obligations.MasterReadSucceeds := by
  intro s c rest a sub n pre polls data more dmore p q z hs hq hc hd hn hpre hlen hp hreq hpolls hpl hdl hz ha hda
  obtain ⟨k, u, haccept, huq, hjob, hanswers, hreads, htrace⟩ := steps_accept hs hq hc hd (fun _ => rfl) hn
  have hcfg : u.cfg = s.cfg := congrArg Job.cfg hjob
  have hbuf : u.buf = c.offer.buffer := congrArg Job.buf hjob
  obtain rfl : u.addr = a := congrArg Job.addr hjob
  obtain rfl : u.subaddr = sub := congrArg Job.subaddr hjob
  obtain rfl : u.len = n := congrArg Job.len hjob
  have hlist : u.csrAnswers = (pre ++ p :: q :: (polls ++ [z])) ++ more := by simp [hanswers, ha]
  obtain ⟨v, hvj, hrun⟩ := traffic_masterRead ((congrArg Job.setup hjob).trans hs) huq (congrArg Job.op hjob)
    (hbuf ▸ hn) hlen hpre hp hreq hpolls hz hpl hdl ((congrArg Job.dataAnswers hjob).trans hda) hlist
  obtain ⟨l, hl⟩ := hrun.reached
  rw [hjob] at hvj
  have hwritten := hrun.written
  rw [hcfg, htrace] at hwritten
  refine ⟨k + l, v.finish 0x00, steps_trans haccept hl, rfl, rfl, rfl, rfl, congrArg Job.calls hvj,
    hrun.remaining hlist, ?_, ?_, ?_, fun i => ?_, hwritten⟩
  · calc (v.finish 0x00).dataAnswers = s.dataAnswers.drop data.length := congrArg Job.dataAnswers hvj
      _ = dmore := by rw [hda, List.drop_left]
  · rw [hrun.reads, hreads]
    simp only [List.length_append, List.length_cons, List.length_nil]
    omega
  · rw [← hdl]
    exact congrArg Job.dataReads hvj
  · have hvb : (v.finish 0x00).buf = c.offer.buffer.writeFrom 0 data := congrArg Job.buf hvj
    rw [hvb, Buffer.read_writeFrom, hdl]
    simp

end Sys2Proof.Safety
end

section
/-! The slave path (44 R230 to R232): REGISTER_SLAVE is refused unless the model executes it, and executed it makes the
actions of SL_PASS one after the other and ends in S_IDLE. -/

namespace Sys2Proof.Safety

open Sys2Proof.Machine

/-- Settles O15: the idle ENGINE looks at the switch next, which is off. -/
theorem slaveRefused : Obligations.SlaveRefused := by
  intro s a sub n hq hx
  have hidle : ¬ s.seq ≠ .sIdle := not_not_intro hq
  have hoff : ¬ s.cfg.slaveExecuted = true := Bool.eq_false_iff.1 hx
  exact (if_neg hidle).trans (if_neg hoff)

/-! The trace without its delays. -/

@[simp] theorem noDelays_delay (n : Nat) (l : List Action) : noDelays (.delay n :: l) = noDelays l := rfl

@[simp] theorem noDelays_csrWrite (w : Byte) (l : List Action) :
    noDelays (.csrWrite w :: l) = .csrWrite w :: noDelays l := rfl

@[simp] theorem noDelays_attach (i c : Nat) (l : List Action) :
    noDelays (.attach i c :: l) = .attach i c :: noDelays l := rfl

/-! What follows an action of SL_PASS. -/

theorem nextSlave_of_more {s : State} {x : SlAction} {rest : List SlAction} (hl : s.slActions = x :: rest)
    (hrest : rest ≠ []) : s.nextSlave = { s with slActions := rest } := by
  simp [State.nextSlave, hl, hrest]

theorem nextSlave_of_last {s : State} {x : SlAction} (hl : s.slActions = [x]) :
    s.nextSlave = { s with slActions := [], busy := false, seq := .sIdle } :=
  if_pos (congrArg List.tail hl)

/-- A register write of SL_PASS is followed by its delay, and then by the next action (20_memory R73). -/
theorem steps_slaveWrite {s t : State} (h : step s = .next t) (ht : t.setup = true) (hq : t.seq = .slPass) :
    steps 2 s = .next ({ t.log (.delay t.cfg.tSetup) with setup := false } : State).nextSlave := by
  refine steps_trans (steps_one h) (steps_one ((step_setup ht).trans ?_))
  simp only [stepSetup, hq, if_true]

/-! SL_PASS of s with the actions of rest to come. -/

/-- The response address has been conveyed, which left these values in the write views of the two registers and this
trace. -/
def conveyed (s : State) (rest : List SlAction) (csr data : Byte) (trace : List Action) : State :=
  { s with slActions := rest, csrWrite := csr, dataWrite := data, trace := trace }

/-- The word that resets into slave mode has been written, with its delay; slaveAddr records the response address. -/
def slaveResetDone (s : State) (rest : List SlAction) : State :=
  { wroteCsr s (slaveResetByte (namedHigh s.cfg.stop s.slResetHi) s.slResetLo) with
    slaveAddr := some s.slAddr, slActions := rest }

/-- The callback has been attached. -/
def attachDone (s : State) (rest : List SlAction) : State :=
  { s with
    attached := some s.slCallback
    trace := .attach s.cfg.slaveIrqIndex s.slCallback :: s.trace
    slActions := rest }

/-- The word that enables has been written, with its delay, and the command has ended. -/
def slaveEnableDone (s : State) : State :=
  { wroteCsr s (slaveEnableByte (namedMid s.cfg.stop s.slEnableHi) s.slEnableLo) with
    slActions := [], busy := false, seq := .sIdle }

/-! The actions one by one. -/

section actions
variable {s : State} (hs : s.setup = false) (hq : s.seq = .slPass)
include hs hq

/-- One of the writes that convey the response address. -/
theorem steps_slaveConvey {w : RegWrite} {rest : List SlAction} (hl : s.slActions = .convey w :: rest)
    (hrest : rest ≠ []) :
    ∃ csr data trace, steps 2 s = .next (conveyed s rest csr data trace)
      ∧ noDelays trace = conveyAction s.cfg.stop w :: noDelays s.trace := by
  have hstep := step_slaveConvey hs hq hl
  cases w with
  | csr x =>
    refine ⟨namedBits s.cfg.stop x, s.dataWrite,
      .delay s.cfg.tSetup :: .csrWrite (namedBits s.cfg.stop x) :: s.trace, ?_, rfl⟩
    rw [steps_slaveWrite hstep rfl hq, nextSlave_of_more (by exact hl) hrest]
    cases s; cases hs; rfl
  | data b =>
    refine ⟨s.csrWrite, b, .delay s.cfg.tSetup :: .dataWrite b :: s.trace, ?_, rfl⟩
    rw [steps_slaveWrite hstep rfl hq, nextSlave_of_more (by exact hl) hrest]
    cases s; cases hs; rfl

theorem steps_slaveReset {rest : List SlAction} (hl : s.slActions = .reset :: rest) (hrest : rest ≠ []) :
    steps 2 s = .next (slaveResetDone s rest) := by
  rw [steps_slaveWrite (step_slaveReset hs hq hl) rfl hq, nextSlave_of_more (by exact hl) hrest]
  cases s; cases hs; rfl

theorem steps_slaveAttach {rest : List SlAction} (hl : s.slActions = .attach :: rest) (hrest : rest ≠ []) :
    steps 1 s = .next (attachDone s rest) := by
  refine steps_one ((step_slaveAttach hs hq hl).trans ?_)
  rw [stepAttach, nextSlave_of_more (by exact hl) hrest]
  rfl

theorem steps_slaveEnable (hl : s.slActions = [.enable]) : steps 2 s = .next (slaveEnableDone s) := by
  rw [steps_slaveWrite (step_slaveEnable hs hq hl) rfl hq, nextSlave_of_last (by exact hl)]
  cases s; cases hs; rfl

/-- The attach and the word that enables are the last two actions. -/
theorem steps_slaveEnd (hl : s.slActions = [.attach, .enable]) :
    steps (1 + 2) s = .next (slaveEnableDone (attachDone s [.enable])) :=
  steps_trans (steps_slaveAttach hs hq hl nofun) (steps_slaveEnable (s := attachDone s [.enable]) hs hq rfl)

end actions

/-- All the writes that convey the response address, on one side of the reset word. -/
theorem steps_slaveConveys (ws : List RegWrite) {s : State} {rest : List SlAction} (hs : s.setup = false)
    (hq : s.seq = .slPass) (hl : s.slActions = ws.map SlAction.convey ++ rest) (hrest : rest ≠ []) :
    ∃ csr data trace, steps (2 * ws.length) s = .next (conveyed s rest csr data trace)
      ∧ noDelays trace = (ws.map (conveyAction s.cfg.stop)).reverse ++ noDelays s.trace := by
  induction ws generalizing s with
  | nil =>
    refine ⟨s.csrWrite, s.dataWrite, s.trace, ?_, rfl⟩
    rw [conveyed, ← show s.slActions = rest from hl]
    rfl
  | cons w ws ih =>
    obtain ⟨csr, data, trace, hfirst, htrace⟩ :=
      steps_slaveConvey hs hq hl (List.append_ne_nil_of_right_ne_nil _ hrest)
    obtain ⟨csr', data', trace', hothers, htrace'⟩ :=
      ih (s := conveyed s (ws.map SlAction.convey ++ rest) csr data trace) hs hq rfl
    refine ⟨csr', data', trace', ?_, ?_⟩
    · rw [List.length_cons, Nat.mul_succ, Nat.add_comm]
      exact steps_trans hfirst hothers
    · rw [htrace']
      simp [conveyed, htrace]

/-- From the reset word to the end of the command. -/
theorem steps_slaveFromReset (after : List RegWrite) {s : State} {rest : List SlAction} (hs : s.setup = false)
    (hq : s.seq = .slPass) (hl : s.slActions = .reset :: rest)
    (hrest : rest = after.map SlAction.convey ++ [.attach, .enable]) :
    ∃ csr data trace, steps (2 + (2 * after.length + (1 + 2))) s
        = .next (slaveEnableDone (attachDone
          (conveyed (slaveResetDone s rest) [.attach, .enable] csr data trace) [.enable]))
      ∧ noDelays trace = (after.map (conveyAction s.cfg.stop)).reverse
        ++ .csrWrite (slaveResetByte (namedHigh s.cfg.stop s.slResetHi) s.slResetLo) :: noDelays s.trace := by
  have hreset := steps_slaveReset hs hq hl (hrest ▸ List.append_ne_nil_of_right_ne_nil _ nofun)
  obtain ⟨csr, data, trace, hafter, htrace⟩ :=
    steps_slaveConveys after (s := slaveResetDone s rest) hs hq hrest nofun
  have hend := steps_slaveEnd
    (s := conveyed (slaveResetDone s rest) [.attach, .enable] csr data trace) hs hq rfl
  exact ⟨csr, data, trace, steps_trans hreset (steps_trans hafter hend), htrace⟩

/-- Settles O18: the conveying writes before the reset word, and the run from there on. -/
theorem slavePassRun : Obligations.SlavePassRun := by
  intro s before after hs hq hl
  obtain ⟨csr, data, trace, hbefore, htrace⟩ := steps_slaveConveys before hs hq hl nofun
  obtain ⟨csr', data', trace', hend, htrace'⟩ :=
    steps_slaveFromReset after (s := conveyed s _ csr data trace) hs hq rfl rfl
  have hcount : 2 * (before.length + after.length) + 5 = 2 * before.length + (2 + (2 * after.length + (1 + 2))) := by
    omega
  rw [hcount]
  refine ⟨_, steps_trans hbefore hend, ?_, ?_⟩
  · cases s; rfl
  · simp [slaveEnableDone, attachDone, slaveResetDone, wroteCsr, conveyed, slavePassActions, htrace, htrace']

end Sys2Proof.Safety
end

section
/-! The two epilogue states and R_CHECK (43 R204, 60 R245, R246, R248). -/

namespace Sys2Proof.Safety

open Sys2Proof.Machine

/-- Settles O33: the check looks at IDLE and NO_ACK only. -/
theorem checkSnapshotOfRead : Obligations.CheckSnapshotOfRead := by
  intro s hs hq
  refine ⟨fun hx => ?_, step_check_accept hs hq⟩
  have hfail : checkFails s.t = true := bne_iff_ne.2 hx
  rw [step_check hs hq, State.checkSnapshot, if_pos hfail]
  rfl

/-- Settles O45: both states end the transaction, with 0 or with the status the abort carries. -/
theorem epilogueSteps : Obligations.EpilogueSteps := by
  intro s hs
  refine ⟨step_ok hs, fun hq ha => ?_, fun hq ha => ?_⟩
  · have hstatus : s.abortStatus = s.r := by rw [State.abortStatus, ha]
    rw [step_abort hs hq, hstatus]
    rfl
  · have hstatus : s.abortStatus = s.t := by rw [State.abortStatus, ha]
    rw [step_abort hs hq, hstatus]
    rfl

end Sys2Proof.Safety
end

section
/-! What a step of a master transaction can be, with no delay due. The states of a transaction stand in an order that
SEQ goes along, but for the way from the end of a byte loop back to its test (10_state R24). -/

namespace Sys2Proof.Safety

open Sys2Proof.Machine

/-- The prologue, the address phase and the ways to the two byte loops, each state before its successors. -/
def statesBeforeLoops : List Seq :=
  [.tIrqOff, .tReset, .apSel, .ap10Hdr, .ap10Start, .ap10Wait, .ap10Low, .ap7Addr, .ap7Start, .wInit, .rWait1, .rSub,
    .rWait2, .rReaddr, .rPivot, .rPidle, .rStart, .rWait3, .rInit]

/-- The byte loops and what comes after them, each state before its successors but for the loops' way back; the switch
says which of R_POLL and R_LSTOP comes first (43 R203). -/
def statesFromLoops : Bool → List Seq
  | false => [.wTest, .wWait, .wLoad, .wByte, .wInc, .wFwait, .wStop, .wIdle, .rTest, .rPoll, .rLstop, .rCheck,
      .rFetch, .rStore, .rDummy, .rInc, .rIdle, .tOk, .tAbort]
  | true => [.wTest, .wWait, .wLoad, .wByte, .wInc, .wFwait, .wStop, .wIdle, .rTest, .rLstop, .rPoll, .rCheck,
      .rFetch, .rStore, .rDummy, .rInc, .rIdle, .tOk, .tAbort]

/-- The states of a master transaction in order. -/
def order (lstopFirst : Bool) : List Seq := statesBeforeLoops ++ statesFromLoops lstopFirst

/-- The place of a state in the order. -/
def position (lstopFirst : Bool) (q : Seq) : Nat := (order lstopFirst).idxOf q

/-- q is a state of a transaction that stands after p. -/
def later (lstopFirst : Bool) (p q : Seq) : Bool :=
  decide (position lstopFirst p < position lstopFirst q) && inMaster q

/-- A state that wrote a register goes on to a later one (20_memory R73). -/
theorem later_afterSetup (c : Config) (op : BitVec 2) {q : Seq} (hw : writesRegister q = true) (hsl : q ≠ .slPass) :
    later c.lastStopBeforePoll q (afterSetup c op q) = true := by
  cases q with
  | slPass => exact absurd rfl hsl
  | ap10Low | ap7Start =>
    simp only [afterSetup, afterAddress]
    generalize c.lastStopBeforePoll = b
    split <;> (revert b; decide)
  | rLstop =>
    simp only [afterSetup, afterLstop]
    generalize c.lastStopBeforePoll = b
    revert b; decide
  | tReset | ap10Hdr | ap10Start | ap7Addr | wByte | wStop | rSub | rReaddr | rPivot | rStart | rDummy =>
    simp only [afterSetup]
    generalize c.lastStopBeforePoll = b
    revert b; decide
  | _ => cases hw

/-- A wait that ends without an abort goes on to a later state. -/
theorem later_afterWait {c : Config} {q : Seq} {m : WMode} (hm : waitMode c q = some m) :
    later c.lastStopBeforePoll q (afterWait c q) = true := by
  cases q with
  | ap10Wait | wWait | wFwait | wIdle | rWait1 | rWait2 | rPidle | rWait3 | rPoll | rIdle =>
    simp only [afterWait]
    generalize c.lastStopBeforePoll = b
    revert b; decide
  | _ => cases hm

/-- The abort state is the last one. -/
theorem later_tAbort_of_wait {c : Config} {q : Seq} {m : WMode} (hm : waitMode c q = some m) (b : Bool) :
    later b q .tAbort = true := by
  cases q with
  | ap10Wait | wWait | wFwait | wIdle | rWait1 | rWait2 | rPidle | rWait3 | rPoll | rIdle => revert b; decide
  | _ => cases hm

/-- What a step of a master transaction does, with no delay due. -/
inductive Move (s : State) : State → Prop
  /-- A step of a poll. -/
  | poll {m : WMode} (wait : waitMode s.cfg s.seq = some m) : Move s (s.pollStep m)
  /-- The check of a read snapshot. -/
  | check (seq : s.seq = .rCheck) : Move s s.checkSnapshot
  /-- A register write, after which a delay is due. -/
  | writeCsr (w : Byte) (writes : writesRegister s.seq = true) : Move s (s.writeCsr w)
  | writeData (b : Byte) (writes : writesRegister s.seq = true) : Move s (s.writeData b)
  /-- The end of a byte loop's body: back to its test with the next index. -/
  | increment {q : Seq} (seq : s.seq = .wInc ∧ q = .wTest ∨ s.seq = .rInc ∧ q = .rTest) :
      Move s (({ s with idx := s.idx + 1 }).goto q)
  /-- The end of the transaction. -/
  | finish (seq : s.seq = .tOk ∨ s.seq = .tAbort) (x : Byte) : Move s (s.finish x)
  /-- Any other step goes on to a later state of the order. -/
  | onward {u : State} {q : Seq} (cfg : u.cfg = s.cfg) (len : u.len = s.len)
      (idx : u.idx = s.idx ∨ s.seq = .wInit ∨ s.seq = .rInit) (ne : q ≠ .tAbort)
      (later : later s.cfg.lastStopBeforePoll s.seq q = true) : Move s (u.goto q)

section moves
variable {s u : State} {p q : Seq}

/-- A move between two named states, later in both orders. -/
theorem Move.to (hq : s.seq = p) (hcfg : u.cfg = s.cfg := by rfl) (hlen : u.len = s.len := by rfl)
    (hidx : u.idx = s.idx := by rfl) (hne : q ≠ .tAbort := by decide)
    (hl : ∀ b, later b p q = true := by decide) : Move s (u.goto q) :=
  .onward hcfg hlen (.inl hidx) hne (hq ▸ hl _)

/-- A move into a byte loop. -/
theorem Move.enterLoop (hq : s.seq = .wInit ∧ q = .wTest ∨ s.seq = .rInit ∧ q = .rTest) :
    Move s (({ s with idx := 0 }).goto q) := by
  obtain ⟨hp, rfl⟩ | ⟨hp, rfl⟩ := hq
  · exact .onward rfl rfl (.inr (.inl hp)) nofun (hp ▸ (by decide : ∀ b, later b .wInit .wTest = true) _)
  · exact .onward rfl rfl (.inr (.inr hp)) nofun (hp ▸ (by decide : ∀ b, later b .rInit .rTest = true) _)

end moves

/-- A step of a master transaction faults or is a move. -/
theorem step_move {s : State} (hs : s.setup = false) (hq : inMaster s.seq = true) :
    (∃ f, step s = .fault f) ∨ ∃ t, step s = .next t ∧ Move s t := by
  cases hp : s.seq with
  | sIdle | slPass => rw [hp] at hq; cases hq
  | ap10Wait | wWait | wFwait | wIdle | rWait1 | rWait2 | rPidle | rWait3 | rPoll | rIdle =>
    obtain ⟨m, hm⟩ : ∃ m, waitMode s.cfg s.seq = some m := by rw [hp]; exact ⟨_, rfl⟩
    exact .inr ⟨_, step_wait hs hm, .poll hm⟩
  | tReset | ap10Hdr | ap10Start | ap10Low | ap7Addr | ap7Start | wByte | wStop | rSub | rReaddr | rPivot | rStart
  | rDummy =>
    have hw : writesRegister s.seq = true := by rw [hp]; rfl
    obtain ⟨w, h⟩ | ⟨b, h⟩ := step_registerWrite hs hw (by rw [hp]; nofun) (by rw [hp]; nofun)
    · exact .inr ⟨_, h, .writeCsr w hw⟩
    · exact .inr ⟨_, h, .writeData b hw⟩
  | rLstop =>
    by_cases hl : s.idx + 1 = s.len
    · exact .inr ⟨_, step_lastStop hs hp hl, .writeCsr _ (by rw [hp]; rfl)⟩
    · refine .inr ⟨_, step_notLast hs hp hl, .onward rfl rfl (.inl rfl) ?_ ?_⟩
      · unfold afterLstop; split <;> nofun
      · rw [hp]; exact later_afterSetup s.cfg s.op rfl nofun
  | tIrqOff => exact .inr ⟨_, step_irqOff hs hp, .to hp⟩
  | apSel =>
    refine .inr ⟨_, step_select hs hp, ?_⟩
    split <;> exact .to hp
  | wInit => exact .inr ⟨_, step_writeInit hs hp, .enterLoop (.inl ⟨hp, rfl⟩)⟩
  | rInit => exact .inr ⟨_, step_readInit hs hp, .enterLoop (.inr ⟨hp, rfl⟩)⟩
  | wTest =>
    refine .inr ⟨_, step_writeTest hs hp, ?_⟩
    split <;> exact .to hp
  | rTest =>
    refine .inr ⟨_, step_readTest hs hp, ?_⟩
    split_ifs <;> exact .to hp
  | wInc => exact .inr ⟨_, step_writeInc hs hp, .increment (.inl ⟨hp, rfl⟩)⟩
  | rInc => exact .inr ⟨_, step_readInc hs hp, .increment (.inr ⟨hp, rfl⟩)⟩
  | wLoad =>
    rw [step_load hs hp, stepLoad]
    split
    · exact .inr ⟨_, rfl, .to hp⟩
    · exact .inl ⟨_, rfl⟩
  | rStore =>
    rw [step_store hs hp, stepStore]
    split
    · exact .inr ⟨_, rfl, .to hp⟩
    · exact .inl ⟨_, rfl⟩
  | rCheck => exact .inr ⟨_, step_check hs hp, .check hp⟩
  | rFetch => exact .inr ⟨_, step_fetch hs hp, .to hp⟩
  | tOk => exact .inr ⟨_, step_ok hs hp, .finish (.inl hp) _⟩
  | tAbort => exact .inr ⟨_, step_abort hs hp, .finish (.inr hp) _⟩

end Sys2Proof.Safety
end

section
/-! The states that can raise an abort (60 R242). -/

namespace Sys2Proof.Safety

open Sys2Proof.Machine

/-- An abort is raised by the test of a classified wait, carrying R = T, or by R_CHECK, carrying T. -/
inductive RaisesAbort (s t : State) : Prop
  | wait (mode : waitMode s.cfg s.seq = some .req) (pseq : s.pseq = .pTest) (dataReq : s.t &&& 0x10 = 0)
      (idle : s.t &&& 0x80 ≠ 0) (next : t = ({ s with r := s.t }).raiseAbort .r)
  | check (seq : s.seq = .rCheck) (fails : s.t &&& 0xC0 ≠ 0) (next : t = s.raiseAbort .t)

/-- The classified waits; W_FWAIT is one by its switch (42 R177). -/
theorem seq_of_waitMode_req {c : Config} {q : Seq} (h : waitMode c q = some .req) :
    q ∈ [Seq.ap10Wait, .wWait, .rWait1, .rWait2, .rWait3] ∨ q = .wFwait ∧ c.finalWaitAborts = true := by
  cases q with
  | ap10Wait | wWait | rWait1 | rWait2 | rWait3 => exact .inl (by decide)
  | wFwait => exact .inr ⟨rfl, by simpa [waitMode] using h⟩
  | _ => cases h

/-! What never leads to T_ABORT. -/

theorem afterWait_ne_tAbort (c : Config) {q : Seq} (h : q ≠ .tAbort) : afterWait c q ≠ .tAbort := by
  cases q with
  | rPoll => simp only [afterWait]; split <;> nofun
  | tAbort => exact absurd rfl h
  | _ => nofun

theorem afterSetup_ne_tAbort (c : Config) (op : BitVec 2) {q : Seq} (h : q ≠ .tAbort) :
    afterSetup c op q ≠ .tAbort := by
  cases q with
  | ap10Low | ap7Start => simp only [afterSetup, afterAddress]; split <;> nofun
  | rLstop => simp only [afterSetup, afterLstop]; split <;> nofun
  | tAbort => exact absurd rfl h
  | _ => nofun

theorem nextSlave_ne_tAbort {s : State} (h : s.seq ≠ .tAbort) : s.nextSlave.seq ≠ .tAbort := by
  obtain ⟨-, hr⟩ | ⟨-, hr⟩ := s.nextSlave_cases <;> rw [hr]
  · exact h
  · nofun

theorem stepSetup_ne_tAbort {s t : State} (h : stepSetup s = .next t) (hne : s.seq ≠ .tAbort) :
    t.seq ≠ .tAbort := by
  cases h
  split
  · exact nextSlave_ne_tAbort hne
  · exact afterSetup_ne_tAbort s.cfg s.op hne

/-- A command is ignored or goes on to T_IRQ_OFF or SL_PASS (10_state R26). -/
theorem exec_command_ne_tAbort {i : Instr} {s t : State} (hi : i.slot = .cmd) (h : exec i s = .next t)
    (hne : s.seq ≠ .tAbort) : t.seq ≠ .tAbort := by
  cases i with
  | masterWrite | masterRead =>
    obtain ⟨-, rfl⟩ | ⟨-, -, rfl⟩ := State.acceptMaster_next h
    · exact hne
    · nofun
  | registerSlave a sub n =>
    obtain ⟨-, rfl⟩ | ⟨-, -, rfl⟩ := execRegisterSlave_next (a := a) (sub := sub) (n := n) h
    · exact hne
    · nofun
  | noCommand => cases h; exact hne
  | _ => cases hi

theorem step_idle_ne_tAbort {s t : State} (hs : s.setup = false) (hq : s.seq = .sIdle) (h : step s = .next t) :
    t.seq ≠ .tAbort := by
  have hne : s.seq ≠ .tAbort := by rw [hq]; nofun
  obtain ⟨-, rfl⟩ | ⟨c, rest, -, ⟨-, rfl⟩ | ⟨-, i, hi, hx⟩⟩ := step_idle_next hs hq h
  · exact hne
  · nofun
  · exact exec_command_ne_tAbort (decodeCommand_ok hi).1 hx hne

theorem step_slave_ne_tAbort {s t : State} (hs : s.setup = false) (hq : s.seq = .slPass) (h : step s = .next t) :
    t.seq ≠ .tAbort := by
  have hne : s.seq ≠ .tAbort := by rw [hq]; nofun
  cases hl : s.slActions with
  | nil => rw [step_slaveDone hs hq hl] at h; cases h; exact nextSlave_ne_tAbort hne
  | cons x l =>
    cases x with
    | convey w =>
      rw [step_slaveConvey hs hq hl] at h
      cases h
      obtain ⟨x, -, hr⟩ | ⟨b, -, hr⟩ := s.convey_cases w <;> rw [hr] <;> exact hne
    | reset => rw [step_slaveReset hs hq hl] at h; cases h; exact hne
    | attach => rw [step_slaveAttach hs hq hl] at h; cases h; exact nextSlave_ne_tAbort hne
    | enable => rw [step_slaveEnable hs hq hl] at h; cases h; exact hne

/-! What leads there. -/

/-- A step of a poll raises an abort only where a classified wait ends with DATA_REQ clear (40 R135). -/
theorem raisesAbort_of_pollStep {s : State} {m : WMode} (hm : waitMode s.cfg s.seq = some m)
    (ht : (s.pollStep m).seq = .tAbort) : RaisesAbort s (s.pollStep m) := by
  have hne : s.seq ≠ .tAbort := (leaves_of_waitMode hm).2.symm
  have hend : afterWait s.cfg s.seq ≠ .tAbort := afterWait_ne_tAbort s.cfg hne
  obtain ⟨-, hr⟩ | ⟨-, hr⟩ | ⟨hp, hr⟩ := s.pollStep_cases m <;> rw [hr] at ht ⊢
  · exact absurd ht hne
  · exact absurd ht hne
  · obtain ⟨-, hr⟩ | ⟨-, -, hr⟩ | ⟨he, rfl, hr⟩ := s.pollTest_cases m <;> rw [hr] at ht ⊢
    · exact absurd ht hne
    · exact absurd ht hend
    · obtain ⟨-, hr⟩ | ⟨hc, hr⟩ := s.endClassified_cases <;> rw [hr] at ht ⊢
      · exact absurd ht hend
      · have hreq : s.t &&& 0x10 = 0 := not_not.1 (mt classify_of_dataReq hc)
        rw [classify_of_not_dataReq hreq]
        exact .wait hm hp hreq (idle_of_not_dataReq ((WMode.ends_eq_true .req s.t).1 he) hreq) rfl

theorem raisesAbort_of_check {s : State} (hq : s.seq = .rCheck) (ht : s.checkSnapshot.seq = .tAbort) :
    RaisesAbort s s.checkSnapshot := by
  obtain ⟨hc, hr⟩ | ⟨-, hr⟩ := s.checkSnapshot_cases <;> rw [hr] at ht ⊢
  · exact .check hq (and_ne_zero_of_checkFails s.t hc).2 rfl
  · cases ht

/-- Of the moves of a transaction only a poll and the check of a read snapshot lead to T_ABORT. -/
theorem Move.raisesAbort {s t : State} (h : Move s t) (hne : s.seq ≠ .tAbort) (ht : t.seq = .tAbort) :
    RaisesAbort s t := by
  cases h with
  | poll hm => exact raisesAbort_of_pollStep hm ht
  | check hq => exact raisesAbort_of_check hq ht
  | writeCsr | writeData => exact absurd ht hne
  | increment hq => obtain ⟨-, rfl⟩ | ⟨-, rfl⟩ := hq <;> cases ht
  | finish => cases ht
  | onward _ _ _ hq => exact absurd ht hq

/-- A step that enters T_ABORT raises an abort. -/
theorem step_raisesAbort {s t : State} (h : step s = .next t) (hne : s.seq ≠ .tAbort) (ht : t.seq = .tAbort) :
    s.setup = false ∧ RaisesAbort s t := by
  cases hs : s.setup with
  | true => exact absurd ht (stepSetup_ne_tAbort ((step_setup hs).symm.trans h) hne)
  | false =>
    refine ⟨rfl, ?_⟩
    by_cases hi : s.seq = .sIdle
    · exact absurd ht (step_idle_ne_tAbort hs hi h)
    by_cases hsl : s.seq = .slPass
    · exact absurd ht (step_slave_ne_tAbort hs hsl h)
    obtain ⟨f, hf⟩ | ⟨u, hu, hmove⟩ := step_move hs (by simp [inMaster, hi, hsl])
    · cases h.symm.trans hf
    · cases h.symm.trans hu
      exact hmove.raisesAbort hne ht

theorem inRead_of_mem : ∀ q ∈ [Seq.rWait1, .rWait2, .rWait3, .rCheck], inRead q = true := by decide

/-- Settles O48: the abort is that of a classified wait or of R_CHECK; what the table adds in a run is in Inv. -/
theorem onlyListedStatesAbort : Obligations.OnlyListedStatesAbort := by
  intro s t h hne ht
  obtain ⟨hs, habort⟩ := step_raisesAbort h hne ht
  refine ⟨hs, ?_, fun hinv => ⟨fun hq => ?_, fun hq => ?_, fun hq => ?_, fun hq => ?_⟩⟩
  · cases habort with
    | wait hm hp hreq hidle hnext =>
      subst hnext
      exact .inl ⟨seq_of_waitMode_req hm, hp, hreq, hidle, rfl, rfl⟩
    | check hq hc hnext =>
      subst hnext
      exact .inr ⟨hq, hc, rfl⟩
  · exact of_decide_eq_true (hinv.addr_ten (by rw [hq]; rfl))
  · exact hinv.op_write (by obtain hq | hq := hq <;> rw [hq] <;> rfl)
  · exact hinv.op_read (inRead_of_mem s.seq hq)
  · exact (WMode.ends_eq_true .rdy s.t).1 (hinv.t_ready (.inl hq))

end Sys2Proof.Safety
end

section
/-! A transaction ends if the PERIPHERAL answers (70 R306). Every state of it has a weight, which each step but those of
an unanswered poll lowers: first the iterations still to come count, then the states still to come in the order. -/

namespace Sys2Proof.Safety

open Sys2Proof.Machine

/-- The iterations of the byte loop still to come, the one in hand among them. -/
def iterationsLeft (s : State) : Nat :=
  if s.seq ∈ statesBeforeLoops then s.len else s.len - s.idx

/-- The states of the order still to come. -/
def statesLeft (s : State) : Nat :=
  (order s.cfg.lastStopBeforePoll).length - position s.cfg.lastStopBeforePoll s.seq

/-- A delay that is due makes one step less; an iteration outweighs all the states. -/
def weight (s : State) : Nat := 80 * iterationsLeft s + 2 * statesLeft s + if s.setup then 0 else 1

/-- The transaction goes on in t with less to do. -/
def Onward (s t : State) : Prop := inMaster t.seq = true ∧ weight t < weight s

theorem statesLeft_le (s : State) : statesLeft s ≤ 38 := by
  refine (Nat.sub_le _ _).trans ?_
  cases s.cfg.lastStopBeforePoll <;> decide

theorem weight_le (s : State) : weight s ≤ 80 * iterationsLeft s + 77 := by
  have hleft := statesLeft_le s
  unfold weight
  split <;> omega

/-- What stands in the order after a state outside its first part is outside it too. -/
theorem mem_statesBeforeLoops_of_later {b : Bool} {p q : Seq} (hl : later b p q = true)
    (hq : q ∈ statesBeforeLoops) : p ∈ statesBeforeLoops := by
  by_contra hp
  have hlt : position b p < position b q := of_decide_eq_true (Bool.and_eq_true_iff.1 hl).1
  have hfirst : position b q < statesBeforeLoops.length := by
    rw [position, order, List.idxOf_append_of_mem hq]
    exact List.idxOf_lt_length_of_mem hq
  have hsecond : statesBeforeLoops.length ≤ position b p := by
    rw [position, order, List.idxOf_append_of_notMem hp]
    exact Nat.le_add_right _ _
  omega

section onward
variable {s t u : State} {q : Seq}

/-- SEQ goes on to a later state: the order has fewer states left, and no iteration is added. -/
theorem Onward.goto (hcfg : u.cfg = s.cfg) (hlen : u.len = s.len)
    (hidx : u.idx = s.idx ∨ s.seq = .wInit ∨ s.seq = .rInit) (hl : later s.cfg.lastStopBeforePoll s.seq q = true) :
    Onward s (u.goto q) := by
  obtain ⟨hlt, hm⟩ := Bool.and_eq_true_iff.1 hl
  refine ⟨hm, ?_⟩
  have hiter : iterationsLeft (u.goto q) ≤ iterationsLeft s := by
    unfold iterationsLeft
    rw [State.goto_seq, State.goto_len, State.goto_idx, hlen]
    by_cases hp : s.seq ∈ statesBeforeLoops
    · rw [if_pos hp]
      split
      · exact le_rfl
      · exact Nat.sub_le _ _
    · have hi : u.idx = s.idx := hidx.resolve_right fun h => hp (by obtain h | h := h <;> rw [h] <;> decide)
      rw [if_neg hp, if_neg (mt (mem_statesBeforeLoops_of_later hl) hp), hi]
  have hstates : statesLeft (u.goto q) < statesLeft s := by
    have hpos : position s.cfg.lastStopBeforePoll s.seq < position s.cfg.lastStopBeforePoll q := of_decide_eq_true hlt
    have hle : position s.cfg.lastStopBeforePoll q ≤ (order s.cfg.lastStopBeforePoll).length := List.idxOf_le_length
    unfold statesLeft
    rw [State.goto_cfg, State.goto_seq, hcfg]
    omega
  unfold weight
  split <;> split <;> omega

/-- With no delay due there is more to do than with one. -/
theorem weight_of_noDelay (hs : s.setup = false) : 80 * iterationsLeft s + 2 * statesLeft s < weight s := by
  simp [weight, hs]

/-- A register write leaves its delay to do. -/
theorem Onward.writeCsr (hs : s.setup = false) (hq : inMaster s.seq = true) (w : Byte) : Onward s (s.writeCsr w) :=
  ⟨hq, weight_of_noDelay hs⟩

theorem Onward.writeData (hs : s.setup = false) (hq : inMaster s.seq = true) (b : Byte) : Onward s (s.writeData b) :=
  ⟨hq, weight_of_noDelay hs⟩

/-- The next index leaves one iteration less. -/
theorem Onward.increment (hi : s.idx < s.len) (hq : s.seq = .wInc ∧ q = .wTest ∨ s.seq = .rInc ∧ q = .rTest) :
    Onward s (({ s with idx := s.idx + 1 }).goto q) := by
  have hbefore : iterationsLeft s = s.len - s.idx :=
    if_neg (by obtain ⟨h, -⟩ | ⟨h, -⟩ := hq <;> rw [h] <;> decide)
  have hafter : iterationsLeft (({ s with idx := s.idx + 1 }).goto q) = s.len - (s.idx + 1) :=
    if_neg (by rw [State.goto_seq]; obtain ⟨-, rfl⟩ | ⟨-, rfl⟩ := hq <;> decide)
  have hle := weight_le (({ s with idx := s.idx + 1 }).goto q)
  refine ⟨by obtain ⟨-, rfl⟩ | ⟨-, rfl⟩ := hq <;> rfl, ?_⟩
  have hge : 80 * iterationsLeft s ≤ weight s := by unfold weight; omega
  omega

/-- The test of a poll that has been answered (40 R135 to R138). -/
theorem Onward.pollTest {m : WMode} (hm : waitMode s.cfg s.seq = some m) (he : m.ends s.t = true) :
    Onward s (s.pollTest m) := by
  obtain ⟨hn, -⟩ | ⟨-, -, hr⟩ | ⟨-, -, hr⟩ := s.pollTest_cases m
  · cases he.symm.trans hn
  · rw [hr]; exact .goto rfl rfl (.inl rfl) (later_afterWait hm)
  · obtain ⟨-, hc⟩ | ⟨-, hc⟩ := s.endClassified_cases <;> rw [hr, hc]
    · exact .goto rfl rfl (.inl rfl) (later_afterWait hm)
    · exact .goto rfl rfl (.inl rfl) (later_tAbort_of_wait hm _)

theorem Onward.checkSnapshot (hq : s.seq = .rCheck) : Onward s s.checkSnapshot := by
  obtain ⟨-, hr⟩ | ⟨-, hr⟩ := s.checkSnapshot_cases <;> rw [hr]
  · exact .goto rfl rfl (.inl rfl) (hq ▸ (by decide : ∀ b, later b .rCheck .tAbort = true) _)
  · exact .goto rfl rfl (.inl rfl) (hq ▸ (by decide : ∀ b, later b .rCheck .rFetch = true) _)

end onward

/-! Inv and the premise hold all along a run. -/

theorem Inv.of_steps {k : Nat} {s t : State} (h : Inv s) (hk : steps k s = .next t) : Inv t := by
  induction k generalizing s with
  | zero => cases hk; exact h
  | succ k ih =>
    cases hstep : step s with
    | next u =>
      rw [steps_succ hstep] at hk
      exact ih (stepKeepsInvariant s u h hstep) hk
    | fault | refused => simp only [steps, hstep] at hk; cases hk

theorem PeripheralAnswers.of_steps {k : Nat} {s t : State} (h : PeripheralAnswers s) (hk : steps k s = .next t) :
    PeripheralAnswers t :=
  fun n u m hn => h (k + n) u m (steps_trans hk hn)

/-! The waits. -/

theorem csrAnswer_zero (s : State) : csrAnswer s 0 = s.csrView := by
  unfold csrAnswer State.csrView
  cases s.csrAnswers <;> rfl

/-- After a poll the answers have moved up by one. -/
theorem csrAnswer_polled (s : State) (k : Nat) : csrAnswer (polled s) k = csrAnswer s (k + 1) := by
  change s.csrAnswers.tail.getD k (Config.csrFree (s.csrReads + 1 + k)) = s.csrAnswers.getD (k + 1) _
  rw [Nat.add_right_comm s.csrReads 1 k]
  cases s.csrAnswers <;> rfl

/-- Some number of steps takes the transaction on. -/
def GoesOn (s : State) : Prop := ∃ k t, steps k s = .next t ∧ Onward s t

/-- A state with the same weight, some steps before. -/
theorem GoesOn.of_steps {k : Nat} {s t : State} (hk : steps k s = .next t) (hw : weight t = weight s) (h : GoesOn t) :
    GoesOn s := by
  obtain ⟨j, u, hj, hm, hlt⟩ := h
  exact ⟨k + j, u, steps_trans hk hj, hm, hw ▸ hlt⟩

section waits
variable {s : State} {m : WMode} (hs : s.setup = false) (hm : waitMode s.cfg s.seq = some m)
include hs hm

/-- A poll that is answered with a bit of its mask takes three steps. -/
theorem goesOn_of_answered (hp : s.pseq = .pRead) (h : s.csrView &&& m.mask ≠ 0) : GoesOn s := by
  have hpoll : steps 3 s = .next ((polled s).pollTest m) := steps_poll hs hm hp
  exact ⟨3, _, hpoll, Onward.pollTest (s := polled s) hm ((m.ends_eq_true _).2 h)⟩

/-- A wait that an answer to come will end, by induction on the number of polls before it. -/
theorem goesOn_of_answer (hp : s.pseq = .pRead) {k : Nat} (hk : csrAnswer s k &&& m.mask ≠ 0) : GoesOn s := by
  induction k generalizing s with
  | zero => exact goesOn_of_answered hs hm hp (csrAnswer_zero s ▸ hk)
  | succ k ih =>
    by_cases ha : s.csrView &&& m.mask = 0
    · rw [← csrAnswer_polled] at hk
      exact .of_steps (steps_poll_spin hs hm hp ha) rfl (ih (s := (polled s).pollAgain) hs hm rfl hk)
    · exact goesOn_of_answered hs hm hp ha

theorem goesOn_of_read (hp : s.pseq = .pRead) (ha : PeripheralAnswers s) : GoesOn s := by
  obtain ⟨k, hk⟩ := ha 0 s m rfl hm hp
  exact goesOn_of_answer hs hm hp hk

/-- A test ends the wait or begins the next poll (40 R134). -/
theorem goesOn_of_test (hp : s.pseq = .pTest) (ha : PeripheralAnswers s) : GoesOn s := by
  have htest : step s = .next (s.pollTest m) := by rw [step_wait hs hm, State.pollStep, hp]
  cases he : m.ends s.t with
  | true => exact ⟨1, _, steps_one htest, .pollTest hm he⟩
  | false =>
    have hagain : steps 1 s = .next s.pollAgain := by rw [steps_one htest, State.pollTest, he]; rfl
    exact .of_steps hagain rfl (goesOn_of_read (s := s.pollAgain) hs hm rfl (ha.of_steps hagain))

/-- A wait goes on, wherever its poll stands, if the PERIPHERAL answers (40 R131). -/
theorem goesOn_of_wait (ha : PeripheralAnswers s) : GoesOn s := by
  cases hp : s.pseq with
  | pRead => exact goesOn_of_read hs hm hp ha
  | pTest => exact goesOn_of_test hs hm hp ha
  | pDly =>
    have hdelay : steps 1 s = .next s.pollDelay := steps_one (by rw [step_wait hs hm, State.pollStep, hp])
    exact .of_steps hdelay rfl (goesOn_of_test (s := s.pollDelay) hs hm rfl (ha.of_steps hdelay))

end waits

/-! The transaction. -/

/-- Some number of steps ends the transaction (60 R245, R246). -/
def Ends (s : State) : Prop := ∃ k t, steps k s = .next t ∧ t.seq = .sIdle ∧ t.busy = false ∧ t.ie = true

theorem Ends.of_steps {k : Nat} {s t : State} (hk : steps k s = .next t) (h : Ends t) : Ends s := by
  obtain ⟨j, u, hj, hend⟩ := h
  exact ⟨k + j, u, steps_trans hk hj, hend⟩

/-- A transaction ends or goes on. -/
theorem ends_or_goesOn {s : State} (h : Inv s) (hq : inMaster s.seq = true) (ha : PeripheralAnswers s) :
    Ends s ∨ GoesOn s := by
  cases hs : s.setup with
  | true =>
    have hsl : s.seq ≠ .slPass := fun hsl => by rw [hsl] at hq; cases hq
    have hstep : step s = .next (({ s.log (.delay s.cfg.tSetup) with setup := false } : State).goto
        (afterSetup s.cfg s.op s.seq)) := by
      simp only [step_setup hs, stepSetup, hsl, if_false]
    exact .inr ⟨1, _, steps_one hstep,
      .goto rfl rfl (.inl rfl) (later_afterSetup s.cfg s.op (h.setup_writes hs).1 hsl)⟩
  | false =>
    obtain ⟨f, hf⟩ | ⟨t, ht, hmove⟩ := step_move hs hq
    · exact absurd hf (invariantIsSafe s h f)
    have hrun := steps_one ht
    cases hmove with
    | poll hm => exact .inr (goesOn_of_wait hs hm ha)
    | finish => exact .inl ⟨1, _, hrun, rfl, rfl, rfl⟩
    | check hp => exact .inr ⟨1, _, hrun, .checkSnapshot hp⟩
    | writeCsr w => exact .inr ⟨1, _, hrun, .writeCsr hs hq w⟩
    | writeData b => exact .inr ⟨1, _, hrun, .writeData hs hq b⟩
    | increment hp =>
      have hi : s.idx < s.len := h.idx_loop (by obtain ⟨hp, -⟩ | ⟨hp, -⟩ := hp <;> rw [hp] <;> rfl)
      exact .inr ⟨1, _, hrun, .increment hi hp⟩
    | onward hcfg hlen hidx _ hl => exact .inr ⟨1, _, hrun, .goto hcfg hlen hidx hl⟩

/-- Settles O55, by induction on the weight. -/
theorem transactionEnds : Obligations.TransactionEnds := by
  intro s h hq ha
  change Ends s
  induction hw : weight s using Nat.strong_induction_on generalizing s with
  | h n ih =>
    obtain hend | ⟨k, t, hk, htq, hlt⟩ := ends_or_goesOn h hq ha
    · exact hend
    · exact .of_steps hk (ih (weight t) (hw ▸ hlt) t (h.of_steps hk) htq (ha.of_steps hk) rfl)

end Sys2Proof.Safety
end

section
/-! Two states that differ in bit 7 of a 10-bit address only (70 R300): a step of a transaction takes them to states
that differ in it only, since no rule reads ADDR but by its range and by the fields of its bytes. -/

namespace Sys2Proof.Machine

/-- The state with another address in ADDR. -/
def State.setAddr (s : State) (a : DevAddr) : State := { s with addr := a }

@[simp] theorem State.setAddr_seq (s : State) (a : DevAddr) : (s.setAddr a).seq = s.seq := rfl
@[simp] theorem State.setAddr_pseq (s : State) (a : DevAddr) : (s.setAddr a).pseq = s.pseq := rfl
@[simp] theorem State.setAddr_addr (s : State) (a : DevAddr) : (s.setAddr a).addr = a := rfl
@[simp] theorem State.setAddr_slActions (s : State) (a : DevAddr) : (s.setAddr a).slActions = s.slActions := rfl

/-- The answer with another address in ADDR of the next state. -/
def setAddrOfNext (a : DevAddr) : Result → Result
  | .next s => .next (s.setAddr a)
  | .fault f => .fault f
  | .refused r => .refused r

/-- A rule that does not test ADDR takes the same branch. -/
theorem ite_commutes {α : Type} (f : α → α) {c : Prop} [Decidable c] {x y x' y' : α} (hx : x' = f x)
    (hy : y' = f y) : (if c then x' else y') = f (if c then x else y) := by
  split <;> assumption

/-- All that the rules read of two addresses agrees: their range and the fields of their bytes (30_encoding R96,
R97). -/
structure SameBytes (a b : DevAddr) : Prop where
  ten : ten a = ten b
  high : addrHigh a = addrHigh b
  low : addrLow a = addrLow b

theorem SameBytes.refl (a : DevAddr) : SameBytes a a := ⟨rfl, rfl, rfl⟩

/-- Bit 7 of a 10-bit address is in no field of its bytes. -/
theorem SameBytes.of_and {a b : DevAddr} (ha : a.toNat > 127) (hb : b.toNat > 127) (h : a &&& 0x37F = b &&& 0x37F) :
    SameBytes a b where
  ten := by rw [Machine.ten, Machine.ten, decide_eq_true ha, decide_eq_true hb]
  high := by
    have hmask : ∀ x : DevAddr, addrHigh (x &&& 0x37F) = addrHigh x := by decide
    rw [← hmask a, h, hmask]
  low := by
    have hmask : ∀ x : DevAddr, addrLow (x &&& 0x37F) = addrLow x := by decide
    rw [← hmask a, h, hmask]

/-- A state of a transaction that issues no row makes the sequencer's step. -/
theorem step_noRow {s : State} (hs : s.setup = false) (h : s.seq ≠ .sIdle) (hi : issue s = none) :
    step s = stepUnissued s :=
  step_unissued hs (by rw [issued_busy h, hi]; rfl)

/-- A command presented while the ENGINE is busy is ignored (10_state R26). -/
theorem exec_command_busy {s : State} {i : Instr} (hi : i.slot = .cmd) (h : s.seq ≠ .sIdle) : exec i s = .next s := by
  cases i with
  | masterWrite a sub n | masterRead a sub n | registerSlave a sub n | noCommand a sub n =>
    obtain ⟨hwrite, hread, hslave, hnone⟩ := commandIgnoredWhileBusy s a sub n h
    assumption
  | _ => cases hi

/-! The operations, the rows and the steps of SL_PASS, which read nothing of ADDR. -/

section operations
variable (s : State) (a : DevAddr)

theorem nextSlave_setAddr : (s.setAddr a).nextSlave = s.nextSlave.setAddr a :=
  ite_commutes (State.setAddr · a) rfl rfl

theorem endClassified_setAddr : (s.setAddr a).endClassified = s.endClassified.setAddr a :=
  ite_commutes (State.setAddr · a) rfl rfl

theorem pollTest_setAddr (m : WMode) : (s.setAddr a).pollTest m = (s.pollTest m).setAddr a :=
  ite_commutes (State.setAddr · a) (ite_commutes (State.setAddr · a) (endClassified_setAddr s a) rfl) rfl

theorem pollStep_setAddr (m : WMode) : (s.setAddr a).pollStep m = (s.pollStep m).setAddr a := by
  unfold State.pollStep
  rw [State.setAddr_pseq]
  cases s.pseq with
  | pRead | pDly => rfl
  | pTest => exact pollTest_setAddr s a m

theorem checkSnapshot_setAddr : (s.setAddr a).checkSnapshot = s.checkSnapshot.setAddr a :=
  ite_commutes (State.setAddr · a) rfl rfl

theorem stepSetup_setAddr : stepSetup (s.setAddr a) = setAddrOfNext a (stepSetup s) :=
  congrArg Host.Outcome.next <|
    ite_commutes (State.setAddr · a) (nextSlave_setAddr { s.log (.delay s.cfg.tSetup) with setup := false } a) rfl

theorem stepSlave_setAddr : stepSlave (s.setAddr a) = setAddrOfNext a (stepSlave s) := by
  unfold stepSlave
  rw [State.setAddr_slActions]
  split
  next => exact congrArg Host.Outcome.next (nextSlave_setAddr s a)
  next w _ _ => cases w <;> rfl
  next => exact congrArg Host.Outcome.next (ite_commutes (State.setAddr · a) rfl rfl)
  next => rfl
  next => rfl

variable {s}

/-- A row of a transaction does the same; a command it ignores (10_state R26). -/
theorem exec_setAddr (h : s.seq ≠ .sIdle) (i : Instr) : exec i (s.setAddr a) = setAddrOfNext a (exec i s) := by
  cases i with
  | masterWrite | masterRead | registerSlave | noCommand =>
    rw [exec_command_busy rfl h, exec_command_busy (s := s.setAddr a) rfl h]
    rfl
  | waitReq | waitAny | waitRdy | waitIdle => exact congrArg Host.Outcome.next (pollStep_setAddr s a _)
  | stRdySpin =>
    exact ite_commutes (setAddrOfNext a) (congrArg Host.Outcome.next (checkSnapshot_setAddr s a)) rfl
  | stReqProceed | stReqTerminal | stRdyAccept | stRdyAbortIdle | stRdyAbortNack =>
    exact ite_commutes (setAddrOfNext a) rfl rfl
  | _ => rfl

end operations

/-! The three places that read ADDR: AP_SEL its range, the rows of the address bytes their fields, R_READDR both. -/

section reads
variable {s : State} {a : DevAddr} (ha : SameBytes a s.addr)
include ha

theorem issue_setAddr : issue (s.setAddr a) = issue s := by
  unfold issue
  rw [State.setAddr_seq, State.setAddr_addr, ha.ten, ha.high, ha.low]
  rfl

theorem stepUnissued_setAddr (h : s.seq ≠ .sIdle) :
    stepUnissued (s.setAddr a) = setAddrOfNext a (stepUnissued s) := by
  unfold stepUnissued
  rw [State.setAddr_seq]
  cases hq : s.seq with
  | sIdle => exact absurd hq h
  | apSel =>
    simp only [stepSelect, State.setAddr_addr, ha.ten]
    rfl
  | wLoad | rStore => exact ite_commutes (setAddrOfNext a) rfl rfl
  | slPass => exact stepSlave_setAddr s a
  | _ => rfl

/-- A step of a transaction commutes with the change of the address. -/
theorem step_setAddr (h : s.seq ≠ .sIdle) : step (s.setAddr a) = setAddrOfNext a (step s) := by
  cases hs : s.setup
  · cases hi : issue s with
    | some i =>
      rw [step_issue hs h hi, step_issue (s := s.setAddr a) hs h ((issue_setAddr ha).trans hi)]
      exact exec_setAddr a h i
    | none =>
      rw [step_noRow hs h hi, step_noRow (s := s.setAddr a) hs h ((issue_setAddr ha).trans hi)]
      exact stepUnissued_setAddr ha h
  · rw [step_setup hs, step_setup (s := s.setAddr a) hs]
    exact stepSetup_setAddr s a

end reads

/-- A step of a transaction keeps ADDR: putting back the address it began with changes nothing. -/
theorem step_addr {s t : State} (hq : s.seq ≠ .sIdle) (h : step s = .next t) : t.addr = s.addr := by
  have hback : step s = setAddrOfNext s.addr (step s) := step_setAddr (.refl s.addr) hq
  rw [h] at hback
  have ht : t = t.setAddr s.addr := Host.Outcome.next.inj hback
  rw [ht, State.setAddr_addr]

end Sys2Proof.Machine

namespace Sys2Proof.Safety

open Sys2Proof.Machine

/-- A run inside a transaction commutes with the change of the address. -/
theorem steps_setAddr {k : Nat} {s t : State} {a : DevAddr} (ha : SameBytes a s.addr)
    (hbusy : ∀ j, j < k → ∃ u, steps j s = .next u ∧ u.seq ≠ .sIdle) (h : steps k s = .next t) :
    steps k (s.setAddr a) = .next (t.setAddr a) := by
  induction k generalizing s with
  | zero => cases h; rfl
  | succ k ih =>
    obtain ⟨_, hnow, hq⟩ := hbusy 0 (Nat.succ_pos k)
    cases hnow
    have hcomm := step_setAddr ha hq
    cases hstep : step s with
    | next v =>
      rw [hstep] at hcomm
      rw [steps_succ hstep] at h
      rw [steps_succ hcomm]
      refine ih (by rwa [step_addr hq hstep]) (fun j hj => ?_) h
      rw [← steps_succ hstep]
      exact hbusy (j + 1) (Nat.succ_lt_succ hj)
    | fault | refused => simp only [steps, hstep] at h; cases h

/-- Settles O54, by induction on the number of steps. -/
theorem addressBitSevenUnseen : Obligations.AddressBitSevenUnseen := fun _ _ _ _ hs ha hbits hbusy h =>
  steps_setAddr (.of_and ha hs hbits) hbusy h

end Sys2Proof.Safety
end

section
/-! The refusal of a master command whose buffer is too short (70 R286). -/

namespace Sys2Proof.Machine

theorem State.acceptMaster_short {s : State} (op : BitVec 2) (a : DevAddr) (sub : Byte) {n : Nat} (hq : s.seq = .sIdle)
    (hb : s.offer.buffer.size < n) : s.acceptMaster op a sub n = .refused .bufferShorterThanLength := by
  rw [State.acceptMaster, if_neg (not_not_intro hq), if_pos hb]

/-- Settles O17: both commands are accepted by the one operation, which refuses. -/
theorem shortBufferRefused : Obligations.ShortBufferRefused := fun _ a sub _ hq hb =>
  ⟨State.acceptMaster_short 1 a sub hq hb, State.acceptMaster_short 2 a sub hq hb⟩

end Sys2Proof.Machine
end
